-- ==== Sys2Proof/Word.lean ====
section
/-!
DEFINITION. Widths of the block's registers (spec/10_state.md R20, spec/20_memory.md R60, R64), and the two
shapes several registers share: a synchroniser chain of SYNC_STAGES = 2 flops, and one value per button.
-/

namespace Sys2Proof

/-- One event token of format EVT2 (R80, R84), the contents of one FIFO slot. -/
abbrev Token := BitVec 2

/-- The field {PWR, MODE} of format TICKSEL3 (R80, R86). -/
abbrev TickSel := BitVec 3

/-- The register CTRL = {PWR, MODE, STR} (R22, R83). -/
abbrev Ctrl := BitVec 5

/-- A FIFO pointer or its Gray code, PTR_W = 4 bits (R33, R89, D8). -/
abbrev Ptr := BitVec 4

/-- The wave phase WPH (R29). -/
abbrev WavePhase := BitVec 7

/-- The pulse phase PPH (R30). -/
abbrev PulsePhase := BitVec 5

/-- A SINE_LUT entry (R60, R62). -/
abbrev SineEntry := BitVec 16

/-- A PULSE_LUT entry (R60, R61). -/
abbrev PulseEntry := BitVec 3

/-- The buttons of R43: b = 0 Mode, b = 1 Strength, b = 2 Power (present only on a build with power). -/
inductive Button where
  | mode
  | strength
  | power
deriving DecidableEq, Repr

/-- One value for each button: BPREV, PEND, the pins, and one chain per button for BSYNC (R35, R36, R43). -/
structure PerButton (α : Type) where
  mode : α
  strength : α
  power : α
deriving DecidableEq, Repr

/-- A synchroniser chain with SYNC_STAGES = 2 (R34, R35): `stage0` samples, `stage1` is the last stage. -/
structure Sync (α : Type) where
  stage0 : α
  stage1 : α
deriving DecidableEq, Repr

/-- The stage of a chain, for FORCE (R90). -/
inductive Stage where
  | first
  | last
deriving DecidableEq, Repr

end Sys2Proof
end

