-- ==== Sys2Proof/Syntax.lean ====
section
/-!
DEFINITION. The encoded operations of the block, one constructor per row of spec/opcode_table.json
(spec/30_encoding.md R80, R84, R86). No operation has an immediate or a register operand (R88).
-/

namespace Sys2Proof

/-- The four event tokens of format EVT2 and the five tick selections of format TICKSEL3. -/
inductive Instr where
  /-- MODE, token 0b00: advanceMode (R131, R132). -/
  | mode
  /-- STRENGTH, token 0b01: advanceStrength (R133). -/
  | strength
  /-- POWER, token 0b10: togglePower (R135), a no-op on a build without power (R136). -/
  | power
  /-- RSVD, token 0b11: consumed, CTRL unchanged (R137). -/
  | rsvd
  /-- TICK_OFF, select 0xx: emit duty 0 (R151). `modeBits` are the two bits the row leaves free, the MODE field;
  no effect depends on them. DESIGN CHOICE, safe: kept so that decoding drops no bit (log 16). -/
  | tickOff (modeBits : BitVec 2)
  /-- TICK_NORMAL, select 100: constant drive (R152). -/
  | tickNormal
  /-- TICK_PULSED, select 101: pulsed drive (R153). -/
  | tickPulsed
  /-- TICK_WAVEFORM, select 110: waveform drive (R155). -/
  | tickWaveform
  /-- TICK_UNDEF, select 111: no-op (R157). -/
  | tickUndef
deriving DecidableEq, Repr

end Sys2Proof
end

