-- ==== Sys2Proof/Config.lean ====
section
/-!
DEFINITION. What a build fixes (spec/00_scope.md R9), what the environment may do (spec/10_state.md R47,
spec/30_encoding.md R90), and the two free values of the model: the acts of a free environment and the contents of a
FIFO slot that nobody has written.
-/

namespace Sys2Proof

/-- The build parameters that R9 leaves open, and those with a default. NUM_MODES = 3, STRENGTH_MAX = 4, WAVE_LEN =
128, PULSE_LEN = 20, NUM_CH = 4, PTR_W = 4 and SYNC_STAGES = 2 are fixed by R9 (D8, log 10). F_CORE, F_EV and
TICK_PERIOD reach the block only as the order of edges and ticks (D39, R246). -/
structure Config where
  /-- HAS_POWER: the build has the power flag and the Power button (D41). -/
  hasPower : Bool
  /-- FULL_SCALE: DUTY_MAX or PULSE_MAX of the build (D16). -/
  fullScale : Nat
  /-- DUTY_BIAS: 0, or 1 for the source's `- 1` (D15). -/
  dutyBias : Nat
  /-- DUTY_W: width of a duty value in bits (D17). -/
  dutyW : Nat
  /-- FIFO_DEPTH: logical capacity, default 10 (D42). -/
  fifoDepth : Nat
  /-- SINE_LUT: 128 entries of 16 bits (R62, D18). -/
  sineLut : Vector SineEntry 128
deriving DecidableEq, Repr

/-- NUM_CH, the number of output channels (R9, R44). -/
def Config.numChannels : Nat := 4

/-- Entries 0 to 31 of the reference sine table (R63). -/
def Config.sineRefRise : List SineEntry :=
  [0x8000, 0x8648, 0x8C8C, 0x92C8, 0x98F9, 0x9F1A, 0xA528, 0xAB1F,
   0xB0FB, 0xB6BA, 0xBC56, 0xC1CE, 0xC71C, 0xCC3F, 0xD133, 0xD5F5,
   0xDA82, 0xDED7, 0xE2F1, 0xE6CF, 0xEA6D, 0xEDC9, 0xF0E2, 0xF3B5,
   0xF641, 0xF884, 0xFA7C, 0xFC29, 0xFD89, 0xFE9C, 0xFF61, 0xFFD8]

/-- Entries 32 to 63 of the reference sine table (R63). -/
def Config.sineRefFall : List SineEntry :=
  [0xFFFF, 0xFFD8, 0xFF61, 0xFE9C, 0xFD89, 0xFC29, 0xFA7C, 0xF884,
   0xF641, 0xF3B5, 0xF0E2, 0xEDC9, 0xEA6D, 0xE6CF, 0xE2F1, 0xDED7,
   0xDA82, 0xD5F5, 0xD133, 0xCC3F, 0xC71C, 0xC1CE, 0xBC56, 0xB6BA,
   0xB0FB, 0xAB1F, 0xA528, 0x9F1A, 0x98F9, 0x92C8, 0x8C8C, 0x8648]

/-- Entries 64 to 95 of the reference sine table (R63). -/
def Config.sineRefDip : List SineEntry :=
  [0x8000, 0x79B8, 0x7374, 0x6D38, 0x6707, 0x60E6, 0x5AD8, 0x54E1,
   0x4F05, 0x4946, 0x43AA, 0x3E32, 0x38E4, 0x33C1, 0x2ECD, 0x2A0B,
   0x257E, 0x2129, 0x1D0F, 0x1931, 0x1593, 0x1237, 0x0F1E, 0x0C4B,
   0x09BF, 0x077C, 0x0584, 0x03D7, 0x0277, 0x0164, 0x009F, 0x0028]

/-- Entries 96 to 127 of the reference sine table (R63). -/
def Config.sineRefReturn : List SineEntry :=
  [0x0001, 0x0028, 0x009F, 0x0164, 0x0277, 0x03D7, 0x0584, 0x077C,
   0x09BF, 0x0C4B, 0x0F1E, 0x1237, 0x1593, 0x1931, 0x1D0F, 0x2129,
   0x257E, 0x2A0B, 0x2ECD, 0x33C1, 0x38E4, 0x3E32, 0x43AA, 0x4946,
   0x4F05, 0x54E1, 0x5AD8, 0x60E6, 0x6707, 0x6D38, 0x7374, 0x79B8]

/-- The reference content SINE_REF of R63, the spec's own choice and no firmware table. -/
def Config.sineRef : Vector SineEntry 128 :=
  ⟨(Config.sineRefRise ++ Config.sineRefFall ++ Config.sineRefDip ++ Config.sineRefReturn).toArray, rfl⟩

/-- The reference configuration REF-A (R10). -/
def Config.refA : Config :=
  { hasPower := true, fullScale := 40000, dutyBias := 0, dutyW := 16, fifoDepth := 10, sineLut := Config.sineRef }

/-- The reference configuration REF-B (R10). -/
def Config.refB : Config :=
  { hasPower := false, fullScale := 65536, dutyBias := 1, dutyW := 16, fifoDepth := 10, sineLut := Config.sineRef }

/-- The draw of a pointer synchroniser's first stage (R109, R110): the current Gray value, or the one before the
latest change (only where the change flag is set). -/
inductive Draw where
  | current
  | older
deriving DecidableEq, Repr

/-- What the environment may do to a running block (R47, R216), one act per step. -/
inductive EnvAct where
  /-- Drive `btn_n[b]` to a level and hold it; 1 is `true`, the released level (R43). -/
  | pin (b : Button) (level : Bool)
  /-- Drive `rst_n` (R41, R230). -/
  | rstN (level : Bool)
  /-- One rising edge of clk_ev, with the draw of R109. -/
  | evEdge (draw : Draw)
  /-- One rising edge of clk_core, with the level of `tick` at it (R42) and the draw of R110. -/
  | coreEdge (tick : Bool) (draw : Draw)
deriving DecidableEq, Repr, Inhabited

/-- The registers a script's FORCE may set (R90): every register of R20. -/
inductive ForceReg where
  | ctrl
  | wph
  | pph
  | dreg
  | s1v
  | s2v
  | rptr
  | wsync (stage : Stage)
  | wptr
  | rsync (stage : Stage)
  | bsync (b : Button) (stage : Stage)
  | bprev (b : Button)
  | pend (b : Button)
  | mem (slot : Ptr)
deriving DecidableEq, Repr

/-- One stimulus command (R90). PIN, EV 1, CORE 1 and TICK are acts of the environment; RESET and FORCE are commands
of their own. -/
inductive Stim where
  | env (a : EnvAct)
  | reset
  | force (r : ForceReg) (v : Nat)
deriving DecidableEq, Repr

/-- FREE VALUE. The acts of an environment that no script drives, by index: every order of edges, every pin change,
every tick, reset and draw is among its values (R15, R47). DESIGN CHOICE, safe (log 2). -/
opaque Config.envAct : Nat → EnvAct

/-- FREE VALUE. What a FIFO slot holds that nobody has written since reset number `epoch` (R37, U6: "any value").
DESIGN CHOICE, safe (log 4). -/
opaque Config.unwrittenSlot : Nat → Ptr → Token

end Sys2Proof
end

