-- ==== Sys2Proof/WellFormed.lean ====
section
/-!
DEFINITION. Which builds and which operations are well formed. A build that breaks a constraint of spec/00_scope.md R9
is ill formed and the machine refuses it (R9, R200, U12). No encoding is illegal (R87), so every `Instr` is well formed.
-/

namespace Sys2Proof

/-- 1 <= FIFO_DEPTH <= 2^PTR_W - 1 (R9; the row of PTR_W asks the same bound). -/
def Config.depthOk (c : Config) : Bool := decide (1 ≤ c.fifoDepth) && decide (c.fifoDepth ≤ 15)

/-- 4 <= FULL_SCALE (R9). -/
def Config.scaleOk (c : Config) : Bool := decide (4 ≤ c.fullScale)

/-- FULL_SCALE - DUTY_BIAS <= 2^DUTY_W - 1 (R9). -/
def Config.dutyFits (c : Config) : Bool := decide (c.fullScale - c.dutyBias ≤ 2 ^ c.dutyW - 1)

/-- DUTY_BIAS in {0, 1} (R9). -/
def Config.biasOk (c : Config) : Bool := decide (c.dutyBias ≤ 1)

/-- DUTY_W >= 16 (R9). -/
def Config.widthOk (c : Config) : Bool := decide (16 ≤ c.dutyW)

/-- The constraints of R9 together. SINE_LUT has 128 entries of 16 bits by its type; HAS_POWER is unconstrained. -/
def Config.wf (c : Config) : Bool := c.depthOk && c.scaleOk && c.dutyFits && c.biasOk && c.widthOk

/-- Every operation is well formed: no encoding is illegal, and none has an operand that could be (R87, R88). -/
def Instr.wf (_ : Instr) : Bool := true

end Sys2Proof
end

