-- ==== Sys2Proof/Decode.lean ====
section
/-!
DEFINITION. The decoder and the encoder of the two codes of the block (spec/30_encoding.md R80, R84, R86). EVT2 is
decoded by the dispatcher when it pops a slot; TICKSEL3 is decoded by the tick logic from CTRL[4:2].
-/

namespace Sys2Proof

/-- The two formats of R80. -/
inductive Format where
  | evt2
  | ticksel3
deriving DecidableEq, Repr

/-- Why a word is no code of a format. Both codes are total at their own width (R87), so only a word that does not fit
the width is rejected. -/
inductive DecodeError where
  /-- The word has a bit set above the format's width. -/
  | wordTooWide
deriving DecidableEq, Repr

/-- The EVT2 token table of R84. -/
def decodeEvt2 (t : Token) : Instr :=
  if t = 0b00#2 then .mode
  else if t = 0b01#2 then .strength
  else if t = 0b10#2 then .power
  else .rsvd

/-- The TICKSEL3 selection of R86: power off comes first and covers every MODE value. -/
def decodeTicksel3 (sel : TickSel) : Instr :=
  if sel.extractLsb' 2 1 = 0b0#1 then .tickOff (sel.extractLsb' 0 2)
  else if sel = 0b100#3 then .tickNormal
  else if sel = 0b101#3 then .tickPulsed
  else if sel = 0b110#3 then .tickWaveform
  else .tickUndef

/-- Width of a format in bits (R80). -/
def Format.width : Format → Nat
  | .evt2 => 2
  | .ticksel3 => 3

/-- Decode a word of a format: total on every natural, rejecting by name one that does not fit. -/
def decodeWord (f : Format) (w : Nat) : Except DecodeError Instr :=
  if w < 2 ^ f.width then
    match f with
    | .evt2 => .ok (decodeEvt2 (BitVec.ofNat 2 w))
    | .ticksel3 => .ok (decodeTicksel3 (BitVec.ofNat 3 w))
  else .error .wordTooWide

/-- The format whose code an operation is (R84, R86). -/
def formatOf : Instr → Format
  | .mode => .evt2
  | .strength => .evt2
  | .power => .evt2
  | .rsvd => .evt2
  | .tickOff _ => .ticksel3
  | .tickNormal => .ticksel3
  | .tickPulsed => .ticksel3
  | .tickWaveform => .ticksel3
  | .tickUndef => .ticksel3

/-- The word of an operation in its format (R84, R86). -/
def encode : Instr → Nat
  | .mode => 0b00
  | .strength => 0b01
  | .power => 0b10
  | .rsvd => 0b11
  | .tickOff modeBits => modeBits.toNat
  | .tickNormal => 0b100
  | .tickPulsed => 0b101
  | .tickWaveform => 0b110
  | .tickUndef => 0b111

/-- The format of a word handed over with its table width. A width of 2 is EVT2 and of 3 is TICKSEL3. The table's
widths in whole bytes are both 8, where the words 0 to 3 are codes of both formats: they are read as EVT2, the words 4
to 7 as TICKSEL3. DESIGN CHOICE, safe: the machine never decodes by this width (log 11). -/
def formatOfWidth (nbits w : Nat) : Option Format :=
  if nbits = 2 then some .evt2
  else if nbits = 3 then some .ticksel3
  else if nbits = 8 then (if w < 4 then some .evt2 else some .ticksel3)
  else none

/-- The instruction read from a word of spec/opcode_table.json with its width (log 11). -/
def decodeTableWord (nbits w : Nat) : Option Instr :=
  match formatOfWidth nbits w with
  | none => none
  | some f => (decodeWord f w).toOption

end Sys2Proof
end

