-- ==== Sys2Proof/Machine/Operands.lean ====
section
/-!
DEFINITION. The implicit operands of the operations (spec/30_encoding.md R88): the fields of CTRL (R22, R81 to R83),
the Gray code of a pointer (spec/00_scope.md R13), the two tables (spec/20_memory.md R60 to R62) and the function
`scale` (spec/42_output_generator.md R154). No operation has any other operand form.
-/

namespace Sys2Proof.Machine

/-- STR = CTRL[1:0] (R22). -/
def ctrlStr (c : Ctrl) : BitVec 2 := c.extractLsb' 0 2

/-- MODE = CTRL[3:2] (R22). -/
def ctrlMode (c : Ctrl) : BitVec 2 := c.extractLsb' 2 2

/-- PWR = CTRL[4] (R22). -/
def ctrlPwr (c : Ctrl) : BitVec 1 := c.extractLsb' 4 1

/-- CTRL = {PWR, MODE, STR} (R83). -/
def packCtrl (pwr : BitVec 1) (mode str : BitVec 2) : Ctrl := pwr ++ mode ++ str

/-- The TICKSEL3 field {PWR, MODE} = CTRL[4:2] (R80). -/
def tickSelOf (c : Ctrl) : TickSel := c.extractLsb' 2 3

/-- strength = STR + 1, the level in [1, 4] (R24, R82). -/
def strengthOf (c : Ctrl) : Nat := (ctrlStr c).toNat + 1

/-- `gray(b) = b XOR (b >> 1)` (R13). -/
def gray (b : Ptr) : Ptr := b ^^^ (b >>> 1)

/-- `bin(g)`: bit i is the XOR of the bits i to PTR_W - 1 of g (R13). -/
def bin (g : Ptr) : Ptr := g ^^^ (g >>> 1) ^^^ (g >>> 2) ^^^ (g >>> 3)

/-- PULSE_LUT: factor 4 at the indices 0 to 9, factor 1 at the indices 10 to 19 (R61). -/
def pulseLut : Vector PulseEntry 20 :=
  ⟨(List.replicate 10 (4#3) ++ List.replicate 10 (1#3)).toArray, rfl⟩

/-- `ROM(PULSE_LUT, p)` at p = i mod 20 (R12, R153). -/
def pulseFactor (i : Nat) : Nat := (pulseLut[i % 20]'(Nat.mod_lt i (by decide))).toNat

/-- `ROM(SINE_LUT, w)` (R12, R155); every 7-bit index is in range (R70). -/
def sineEntry (c : Config) (w : WavePhase) : SineEntry := c.sineLut[w.toNat]'w.isLt

/-- `zext_DUTY_W` of a SINE_LUT entry (R155): the same natural, since DUTY_W >= 16 (R69). -/
def sineDuty (c : Config) (w : WavePhase) : Nat := (sineEntry c w).toNat

/-- `scale(v) = sat0((FULL_SCALE * v) / STRENGTH_MAX - DUTY_BIAS)`, computed exactly; the subtraction of naturals is
the clamp at 0 (R154). -/
def scale (c : Config) (v : Nat) : Nat := (c.fullScale * v) / 4 - c.dutyBias

/-- The next mode: `(MODE + 1) mod 3` on the 2-bit value, so 0b11 gives 0b01 (R131, R132). -/
def nextMode (m : BitVec 2) : BitVec 2 := BitVec.ofNat 2 ((m.toNat + 1) % 3)

/-- The next strength code: `(STR + 1) mod 4` (R133). -/
def nextStr (s : BitVec 2) : BitVec 2 := BitVec.ofNat 2 ((s.toNat + 1) % 4)

/-- The next pulse phase: `(PPH + 1) mod 20` on the 5-bit value (R153, D30). -/
def nextPph (p : PulsePhase) : PulsePhase := BitVec.ofNat 5 ((p.toNat + 1) % 20)

/-- The next wave phase: `(WPH + 1) mod 128` (R155). -/
def nextWph (w : WavePhase) : WavePhase := BitVec.ofNat 7 ((w.toNat + 1) % 128)

/-- The token the arbiter writes for button b: `tok(b) = b` (R85). -/
def tokenOf : Button → Token
  | .mode => 0b00#2
  | .strength => 0b01#2
  | .power => 0b10#2

end Sys2Proof.Machine
end

