-- ==== Sys2Proof/Machine/State.lean ====
section
/-!
DEFINITION. The state of the block (spec/10_state.md R20, R48), the reasons a step can stop, and the state after reset
(R39). The environment's pins and the stimulus still to come stand here too, because a step is a function of the state
alone (log 2).
-/

namespace Sys2Proof.Machine

/-- The FIFO storage MEM (R37, R64): the slots written since reset, as (slot, token) pairs with the slots strictly
rising. A slot that is not listed has not been written since reset; its contents are unspecified (R37, U6). -/
abbrev Memory := List (Nat × Token)

/-- The state record of R48, with the reset synchronisers of R232, the levels the environment holds, the ghost counter
of R118, the build and the stimulus. -/
structure State where
  /-- The build parameters (R9); no step changes them (log 1). -/
  cfg : Config
  /-- CTRL as stored; every read goes through `readCtrl`, which hardwires PWR on a build without power (R22, R25). -/
  ctrl : Ctrl
  /-- WPH (R29). -/
  wph : WavePhase
  /-- PPH (R30). -/
  pph : PulsePhase
  /-- DREG, a DUTY_W-bit register; DUTY_W is open, so its value is a natural below 2^DUTY_W (R31, log 9). -/
  dreg : Nat
  /-- S1V, the valid bit of the set stage (R32). -/
  s1v : Bool
  /-- S2V, the valid bit of the commit stage (R32). -/
  s2v : Bool
  /-- RPTR (R33). -/
  rptr : Ptr
  /-- WSYNC, Gray codes of the write pointer in clk_core (R34). -/
  wsync : Sync Ptr
  /-- WPTR (R33). -/
  wptr : Ptr
  /-- RSYNC, Gray codes of the read pointer in clk_ev (R34). -/
  rsync : Sync Ptr
  /-- BSYNC[b] (R35). -/
  bsync : PerButton (Sync Bool)
  /-- BPREV[b] (R35). -/
  bprev : PerButton Bool
  /-- PEND[b] (R36). -/
  pend : PerButton Bool
  /-- MEM (R37). -/
  mem : Memory
  /-- WCHG, model-only: WPTR has changed since the last clk_core edge (R48, R110). -/
  wchg : Bool
  /-- RCHG, model-only: RPTR has changed since the last clk_ev edge (R48, R109). -/
  rchg : Bool
  /-- DROPS, model-only ghost counter; no rule reads it (R118). -/
  drops : Nat
  /-- The level of `rst_n` (R41). -/
  rstN : Bool
  /-- The clk_ev domain's reset synchroniser (R232, log 5). -/
  rstEv : Sync Bool
  /-- The clk_core domain's reset synchroniser (R232, log 5). -/
  rstCore : Sync Bool
  /-- The levels of the pins `btn_n[b]` (R43). -/
  btnN : PerButton Bool
  /-- MODEL: stimulus commands still to come, the next one first (R90, log 2). -/
  stim : List Stim
  /-- MODEL: index of the next act of the free environment (log 2). -/
  now : Nat
  /-- MODEL: number of resets so far; it indexes the free contents of MEM (log 4). -/
  epoch : Nat
deriving DecidableEq, Repr

/-- Faults. There is none: "A model of the block has no fault outcome for any reachable state" (R200). DEDUCED, safe
(log 15). -/
inductive Fault where
deriving DecidableEq, Repr

/-- Refusals. -/
inductive Refusal where
  /-- Raised by an arm of `exec` for an operation without a meaning. No arm raises it; safe. -/
  | notModelled (mnemonic : String)
  /-- Raised by `step` for a build that breaks a constraint of R9 (R200, U12); safe, the spec asks for it. -/
  | illFormedConfig
deriving DecidableEq, Repr

/-- The state after reset of a given build (R39): rst_n released and both domains out of reset (log 6), the buttons
released (log 7), no stimulus waiting. -/
def State.resetOf (c : Config) : State :=
  { cfg := c
    ctrl := 0b10000#5
    wph := 0#7
    pph := 0#5
    dreg := 0
    s1v := false
    s2v := false
    rptr := 0#4
    wsync := ⟨0#4, 0#4⟩
    wptr := 0#4
    rsync := ⟨0#4, 0#4⟩
    bsync := ⟨⟨true, true⟩, ⟨true, true⟩, ⟨true, true⟩⟩
    bprev := ⟨true, true, true⟩
    pend := ⟨false, false, false⟩
    mem := []
    wchg := false
    rchg := false
    drops := 0
    rstN := true
    rstEv := ⟨true, true⟩
    rstCore := ⟨true, true⟩
    btnN := ⟨true, true, true⟩
    stim := []
    now := 0
    epoch := 0 }

/-- The state after reset of the reference build REF-A (R10, R39). The choice of build is a DESIGN CHOICE, unsafe for a
statement about this one state (log 1); the statements are about `State.resetOf c` for every build. -/
def State.reset : State := State.resetOf Config.refA

end Sys2Proof.Machine
end

