-- ==== Sys2Proof/Machine/Ops.lean ====
section
/-!
DEFINITION. The named operations over the registers, the FIFO storage and the synchroniser chains. The block takes no
exception and returns from none (spec/60_exceptions.md R200, R209, R210), so there is no operation for either.
-/

namespace Sys2Proof.Machine

/-- Run a second part of one clock edge on the result of the first. -/
def andThen (o : Host.Outcome State Fault Refusal) (f : State → Host.Outcome State Fault Refusal) :
    Host.Outcome State Fault Refusal :=
  match o with
  | .next s => f s
  | .fault r => .fault r
  | .refused r => .refused r

/-! ### Buttons and chains -/

/-- The value that belongs to button b. -/
def perButton {α : Type} (p : PerButton α) : Button → α
  | .mode => p.mode
  | .strength => p.strength
  | .power => p.power

/-- One value per button, from a function of the button. -/
def forButtons {α : Type} (f : Button → α) : PerButton α := ⟨f .mode, f .strength, f .power⟩

/-- Replace the value of one button. -/
def setButton {α : Type} (p : PerButton α) (b : Button) (v : α) : PerButton α :=
  forButtons fun b' => if b' = b then v else perButton p b'

/-- The buttons a build has: Mode and Strength always, Power only with HAS_POWER (R20, R43). -/
def present (c : Config) : Button → Bool
  | .mode => true
  | .strength => true
  | .power => c.hasPower

/-- One edge of a synchroniser chain: the first stage takes the sample, each later stage its predecessor (R101, R109,
R110). -/
def shiftIn {α : Type} (c : Sync α) (v : α) : Sync α := ⟨v, c.stage0⟩

/-- Replace one stage of a chain. -/
def setStage {α : Type} (c : Sync α) (i : Stage) (v : α) : Sync α :=
  match i with
  | .first => { c with stage0 := v }
  | .last => { c with stage1 := v }

/-! ### FIFO storage (R64 to R66) -/

/-- The token written into a slot since reset, if any. -/
def slotWritten (m : Memory) (a : Nat) : Option Token :=
  match m with
  | [] => none
  | (b, t) :: rest => if a = b then some t else slotWritten rest a

/-- Write one slot, keeping the slots strictly rising (R65). -/
def slotWrite (m : Memory) (a : Nat) (t : Token) : Memory :=
  match m with
  | [] => [(a, t)]
  | (b, u) :: rest =>
    if a < b then (a, t) :: (b, u) :: rest
    else if a = b then (a, t) :: rest
    else (b, u) :: slotWrite rest a t

/-- `MemRead(FIFO, p)` (R66): the token last written, or, for a slot nobody has written since reset, a free value
(R37, U6, log 4). -/
def memRead (s : State) (p : Ptr) : Token :=
  (slotWritten s.mem p.toNat).getD (Config.unwrittenSlot s.epoch p)

/-- The canonical form of MEM: slots strictly rising, all among the 16 of R64. -/
abbrev Memory.wf (m : Memory) : Prop :=
  (m.map Prod.fst).Pairwise (· < ·) ∧ ∀ a ∈ m.map Prod.fst, a < 16

/-! ### CTRL (R22, R25, R26) -/

/-- CTRL with PWR as a build has it: without power, PWR is hardwired to 1 (R25). -/
def hardwirePwr (c : Config) (v : Ctrl) : Ctrl := if c.hasPower then v else v ||| 0b10000#5

/-- Every read of CTRL: the tick logic, the dispatcher, status_o (R25, R75). -/
def readCtrl (s : State) : Ctrl := hardwirePwr s.cfg s.ctrl

/-- The whole-register write of CTRL (R26); on a build without power a write to PWR has no effect (R25). -/
def writeCtrl (v : Ctrl) (s : State) : State := { s with ctrl := hardwirePwr s.cfg v }

/-! ### Phase counters and duty pipeline (R29 to R32, R180, R181) -/

/-- Write WPH (R29). -/
def writeWph (w : WavePhase) (s : State) : State := { s with wph := w }

/-- Write PPH (R30). -/
def writePph (p : PulsePhase) (s : State) : State := { s with pph := p }

/-- Stage 1 of the pipeline (R180): an emitted duty is captured and S1V set; without one DREG stays and S1V clears. -/
def capture (d : Option Nat) (s : State) : State :=
  match d with
  | some v => { s with dreg := v, s1v := true }
  | none => { s with s1v := false }

/-- Stage 2 of the pipeline (R181). -/
def advanceCommit (s : State) : State := { s with s2v := s.s1v }

/-! ### FIFO pointers (R106, R111, R112) -/

/-- The producer view of the occupancy, `(WPTR - bin(RSYNC[S-1])) mod N` (R106). -/
def countW (s : State) : Nat := (s.wptr - bin s.rsync.stage1).toNat

/-- The consumer view of the occupancy, `(bin(WSYNC[S-1]) - RPTR) mod N` (R111). -/
def countR (s : State) : Nat := (bin s.wsync.stage1 - s.rptr).toNat

/-- The token POP takes at this edge, if the consumer view is not empty (R112, R113). -/
def fetchToken (s : State) : Option Token :=
  if 0 < countR s then some (memRead s s.rptr) else none

/-- The pointer step of POP: `RPTR <- (RPTR + 1) mod N; RCHG <- 1` (R112). -/
def consume (s : State) : State := { s with rptr := s.rptr + 1, rchg := true }

end Sys2Proof.Machine
end

