-- ==== Sys2Proof/Machine/Dispatcher.lean ====
section
/-!
DEFINITION. The meanings of the four EVT2 tokens, as the dispatcher applies them to CTRL (spec/41_state_machine.md R130
to R137). A dispatch writes CTRL and nothing else (R130); the pointer step of the pop belongs to POP (R112).
-/

namespace Sys2Proof.Machine

/-- `advanceMode` (R131, R132). -/
def advanceMode (c : Ctrl) : Ctrl := packCtrl (ctrlPwr c) (nextMode (ctrlMode c)) (ctrlStr c)

/-- `advanceStrength` (R133). -/
def advanceStrength (c : Ctrl) : Ctrl := packCtrl (ctrlPwr c) (ctrlMode c) (nextStr (ctrlStr c))

/-- `togglePower` (R135). -/
def togglePower (c : Ctrl) : Ctrl := packCtrl (~~~ ctrlPwr c) (ctrlMode c) (ctrlStr c)

/-- MODE, token 0b00 (R131, R132). -/
def execMode (s : State) : Host.Outcome State Fault Refusal := .next (writeCtrl (advanceMode (readCtrl s)) s)

/-- STRENGTH, token 0b01 (R133). -/
def execStrength (s : State) : Host.Outcome State Fault Refusal := .next (writeCtrl (advanceStrength (readCtrl s)) s)

/-- POWER, token 0b10: togglePower with HAS_POWER (R135), else CTRL is unchanged (R136). -/
def execPower (s : State) : Host.Outcome State Fault Refusal :=
  .next (if s.cfg.hasPower then writeCtrl (togglePower (readCtrl s)) s else s)

/-- RSVD, token 0b11: CTRL is unchanged (R137). -/
def execRsvd (s : State) : Host.Outcome State Fault Refusal := .next s

end Sys2Proof.Machine
end

