-- ==== Sys2Proof/Machine/Tick.lean ====
section
/-!
DEFINITION. The meanings of the five TICKSEL3 selections: what the tick logic computes at a control tick and hands to
stage 1 of the duty pipeline (spec/42_output_generator.md R150 to R157, spec/43_duty_pipeline.md R180).
-/

namespace Sys2Proof.Machine

/-- TICK_OFF: emit the duty 0, phases unchanged, whatever the mode bits are (R151). -/
def execTickOff (_modeBits : BitVec 2) (s : State) : Host.Outcome State Fault Refusal := .next (capture (some 0) s)

/-- TICK_NORMAL: emit `scale(STR + 1)` (R152). -/
def execTickNormal (s : State) : Host.Outcome State Fault Refusal :=
  .next (capture (some (scale s.cfg (strengthOf (readCtrl s)))) s)

/-- TICK_PULSED: advance PPH, then emit `scale(PULSE_LUT[PPH])` at the new phase (R153). -/
def execTickPulsed (s : State) : Host.Outcome State Fault Refusal :=
  .next (capture (some (scale s.cfg (pulseFactor (nextPph s.pph).toNat))) (writePph (nextPph s.pph) s))

/-- TICK_WAVEFORM: advance WPH, then emit `SINE_LUT[WPH]` at the new phase, unscaled (R155). -/
def execTickWaveform (s : State) : Host.Outcome State Fault Refusal :=
  .next (capture (some (sineDuty s.cfg (nextWph s.wph))) (writeWph (nextWph s.wph) s))

/-- TICK_UNDEF: nothing is emitted; DREG and the phases are unchanged and no strobe follows (R157). -/
def execTickUndef (s : State) : Host.Outcome State Fault Refusal := .next (capture none s)

end Sys2Proof.Machine
end

