-- ==== Sys2Proof/Machine/Dispatch.lean ====
section
/-!
DEFINITION. The meaning of every operation of spec/opcode_table.json, one arm per constructor.
-/

namespace Sys2Proof.Machine

def exec (i : Instr) (s : State) : Host.Outcome State Fault Refusal :=
  match i with
  -- EVT2 (R84, R130)
  | .mode => Sys2Proof.Machine.execMode s
  | .strength => Sys2Proof.Machine.execStrength s
  | .power => Sys2Proof.Machine.execPower s
  | .rsvd => Sys2Proof.Machine.execRsvd s
  -- TICKSEL3 (R86, R150)
  | .tickOff modeBits => Sys2Proof.Machine.execTickOff modeBits s
  | .tickNormal => Sys2Proof.Machine.execTickNormal s
  | .tickPulsed => Sys2Proof.Machine.execTickPulsed s
  | .tickWaveform => Sys2Proof.Machine.execTickWaveform s
  | .tickUndef => Sys2Proof.Machine.execTickUndef s

end Sys2Proof.Machine
end

