-- ==== Sys2Proof/Machine/Flags.lean ====
section
/-!
DEFINITION. The block has no flags and no condition codes, and no operation writes a flag (spec/10_state.md R28). What
it has of the kind are the model-only change flags WCHG and RCHG and the draws they open (spec/40_event_fifo.md R109,
R110): this file holds their computation.
-/

namespace Sys2Proof.Machine

/-- The sample of a Gray pointer by the first stage of a synchroniser: the value before the latest change only if the
pointer changed since the last destination edge and the draw says so (R109, R110). -/
def samplePtr (changed : Bool) (draw : Draw) (p : Ptr) : Ptr :=
  if changed = true ∧ draw = .older then gray (p - 1) else gray p

/-- What RSYNC[0] takes at a clk_ev edge (R109). -/
def sampleRptr (draw : Draw) (s : State) : Ptr := samplePtr s.rchg draw s.rptr

/-- What WSYNC[0] takes at a clk_core edge (R110). -/
def sampleWptr (draw : Draw) (s : State) : Ptr := samplePtr s.wchg draw s.wptr

/-- The write-pointer synchroniser at a clk_core edge; the flag WCHG clears (R110). -/
def syncWptr (draw : Draw) (s : State) : State :=
  { s with wsync := shiftIn s.wsync (sampleWptr draw s), wchg := false }

/-- The read-pointer synchroniser at a clk_ev edge; the flag RCHG clears (R109). -/
def syncRptr (draw : Draw) (s : State) : State :=
  { s with rsync := shiftIn s.rsync (sampleRptr draw s), rchg := false }

end Sys2Proof.Machine
end

