-- ==== Sys2Proof/Machine/Reset.lean ====
section
/-!
DEFINITION. Reset (spec/70_reset_and_hazards.md R230 to R232): asynchronous assertion, release synchronised in each
domain over SYNC_STAGES = 2 of its own edges.
-/

namespace Sys2Proof.Machine

/-- The clk_ev domain is in reset: rst_n is low, or its reset synchroniser has not let it go yet (R232). -/
def evInReset (s : State) : Bool := !(s.rstN && s.rstEv.stage1)

/-- The clk_core domain is in reset (R232). -/
def coreInReset (s : State) : Bool := !(s.rstN && s.rstCore.stage1)

/-- Assertion of rst_n (R230): every register of both domains and the change flags take their reset values at once,
MEM's contents become unspecified again, and both reset synchronisers clear. What the environment holds stays. -/
def assertReset (s : State) : State :=
  { State.resetOf s.cfg with
    rstN := false
    rstEv := ⟨false, false⟩
    rstCore := ⟨false, false⟩
    btnN := s.btnN
    stim := s.stim
    now := s.now
    epoch := s.epoch + 1 }

/-- Release of rst_n: only the pin changes; each domain leaves reset on its own edges (R232). -/
def releaseReset (s : State) : State := { s with rstN := true }

/-- The environment drives rst_n (R41, R230, R232). -/
def driveReset (level : Bool) (s : State) : State := if level then releaseReset s else assertReset s

/-- A clk_ev edge while the domain is in reset: no register changes but the domain's reset synchroniser, which shifts in
a 1 while rst_n is high (R230, R232, log 5). The flag RCHG clears at this edge as at each clk_ev edge (R109, log 14);
while rst_n is low it holds 0 already (R230). -/
def evResetEdge (s : State) : State :=
  if s.rstN then { s with rstEv := shiftIn s.rstEv true, rchg := false } else s

/-- A clk_core edge while the domain is in reset (R230, R232, log 5); the flag WCHG clears (R110, log 14). -/
def coreResetEdge (s : State) : State :=
  if s.rstN then { s with rstCore := shiftIn s.rstCore true, wchg := false } else s

/-- The script command RESET (R90): assert rst_n, let every register take its reset value, release rst_n; both domains
are out of reset when the next command comes (log 6). -/
def scriptReset (s : State) : State :=
  { assertReset s with rstN := true, rstEv := ⟨true, true⟩, rstCore := ⟨true, true⟩ }

end Sys2Proof.Machine
end

