-- ==== Sys2Proof/Machine/Consumer.lean ====
section
/-!
DEFINITION. The agent CORE: one rising edge of clk_core (spec/60_exceptions.md R218). What the edge runs, a token and a
tick selection, is read from the state before the edge (spec/10_state.md R27); the parts write disjoint registers.
-/

namespace Sys2Proof.Machine

/-- The part of every clk_core edge that decodes nothing: the commit stage (R181) and the write-pointer synchroniser
(R110). -/
def clockCore (draw : Draw) (s : State) : State := syncWptr draw (advanceCommit s)

/-- The TICKSEL3 field a tick decodes: CTRL[4:2] before the edge (R86); none at an edge without a tick (R150). -/
def fetchTick (tick : Bool) (s : State) : Option TickSel := if tick then some (tickSelOf (readCtrl s)) else none

/-- The tick logic at an edge (R150); without a tick nothing is emitted. -/
def runTick (sel : Option TickSel) (s : State) : Host.Outcome State Fault Refusal :=
  match sel with
  | some sel => exec (decodeTicksel3 sel) s
  | none => .next (capture none s)

/-- POP and dispatch of the token taken at an edge (R112, R130); without one nothing happens (R113). -/
def runToken (tok : Option Token) (s : State) : Host.Outcome State Fault Refusal :=
  match tok with
  | some tok => exec (decodeEvt2 tok) (consume s)
  | none => .next s

/-- A clk_core edge of a domain out of reset (R218). -/
def coreStep (tick : Bool) (draw : Draw) (s : State) : Host.Outcome State Fault Refusal :=
  andThen (runTick (fetchTick tick s) (clockCore draw s)) (runToken (fetchToken s))

/-- A clk_core edge (R216, R218, R230). -/
def coreEdge (tick : Bool) (draw : Draw) (s : State) : Host.Outcome State Fault Refusal :=
  if coreInReset s then .next (coreResetEdge s) else coreStep tick draw s

end Sys2Proof.Machine
end

