-- ==== Sys2Proof/Machine/Producer.lean ====
section
/-!
DEFINITION. The agent EV: one rising edge of clk_ev (spec/60_exceptions.md R217, spec/40_event_fifo.md R100 to R109).
Every right-hand side reads the state before the edge.
-/

namespace Sys2Proof.Machine

/-- `fall[b]`: the synchronised level of a present button has just gone from 1 to 0 (R102). -/
def fall (s : State) (b : Button) : Bool :=
  present s.cfg b && perButton s.bprev b && !(perButton s.bsync b).stage1

/-- A present button with a pending edge (R36, R105). -/
def waiting (s : State) (b : Button) : Bool := present s.cfg b && perButton s.pend b

/-- `sel`: the least present button with a pending edge, Mode before Strength before Power (R105). -/
def arbiter (s : State) : Option Button :=
  if waiting s .mode then some .mode
  else if waiting s .strength then some .strength
  else if waiting s .power then some .power
  else none

/-- The button whose event ENQ writes at this edge: `sel`, unless the producer view is full (R106, R107). -/
def accepted (s : State) : Option Button :=
  match arbiter s with
  | some b => if countW s < s.cfg.fifoDepth then some b else none
  | none => none

/-- A full drop happens at this edge (R107). -/
def fullDrop (s : State) : Bool := (arbiter s).isSome && (accepted s).isNone

/-- The falling edge of button b merges into its pending one at this edge (R104). -/
def merges (s : State) (b : Button) : Bool :=
  fall s b && perButton s.pend b && decide (arbiter s ≠ some b)

/-- The drops of this edge: merged edges and a full drop (R118). -/
def dropsNow (s : State) : Nat :=
  (fullDrop s).toNat + (merges s .mode).toNat + (merges s .strength).toNat + (merges s .power).toNat

/-- ENQ (R106): write the token, advance WPTR, set WCHG. -/
def enqueue (b : Button) (s : State) : State :=
  { s with mem := slotWrite s.mem s.wptr.toNat (tokenOf b), wptr := s.wptr + 1, wchg := true }

/-- The pending latch of button b after the edge (R103); an absent button has none. -/
def nextPend (s : State) (b : Button) : Bool :=
  if present s.cfg b then (perButton s.pend b && decide (arbiter s ≠ some b)) || fall s b else perButton s.pend b

/-- BSYNC[b] after the edge (R101); an absent button has none. -/
def nextBsync (s : State) (b : Button) : Sync Bool :=
  if present s.cfg b then shiftIn (perButton s.bsync b) (perButton s.btnN b) else perButton s.bsync b

/-- BPREV[b] after the edge (R101); an absent button has none. -/
def nextBprev (s : State) (b : Button) : Bool :=
  if present s.cfg b then (perButton s.bsync b).stage1 else perButton s.bprev b

/-- Button capture at an edge, read from the state `pre` before it (R101 to R104, R118). -/
def captureButtons (pre s : State) : State :=
  { s with
    pend := forButtons (nextPend pre)
    bsync := forButtons (nextBsync pre)
    bprev := forButtons (nextBprev pre)
    drops := pre.drops + dropsNow pre }

/-- The FIFO write of an edge, if the arbiter's event is accepted (R106, R107). -/
def runEnqueue (b : Option Button) (s : State) : State :=
  match b with
  | some b => enqueue b s
  | none => s

/-- A clk_ev edge of a domain out of reset (R217). -/
def evStep (draw : Draw) (s : State) : State :=
  captureButtons s (runEnqueue (accepted s) (syncRptr draw s))

/-- A clk_ev edge (R216, R217, R230). -/
def evEdge (draw : Draw) (s : State) : State := if evInReset s then evResetEdge s else evStep draw s

end Sys2Proof.Machine
end

