-- ==== Sys2Proof/Machine/Script.lean ====
section
/-!
DEFINITION. What drives a step: one act of the environment (spec/10_state.md R47) or one stimulus command
(spec/30_encoding.md R90), and the pseudo-commands of R91 as lists of commands.
-/

namespace Sys2Proof.Machine

/-- The environment drives `btn_n[b]` (R43). A build without power has no Power pin: nothing is driven (log 8). -/
def drivePin (b : Button) (level : Bool) (s : State) : State :=
  if present s.cfg b then { s with btnN := setButton s.btnN b level } else s

/-- One act of the environment (R216). -/
def runEnv (a : EnvAct) (s : State) : Host.Outcome State Fault Refusal :=
  match a with
  | .pin b level => .next (drivePin b level s)
  | .rstN level => .next (driveReset level s)
  | .evEdge draw => .next (evEdge draw s)
  | .coreEdge tick draw => coreEdge tick draw s

/-- The registers of the clk_core domain among those FORCE names (R20). -/
def inCoreDomain : ForceReg → Bool
  | .ctrl | .wph | .pph | .dreg | .s1v | .s2v | .rptr => true
  | .wsync _ => true
  | .wptr => false
  | .rsync _ => false
  | .bsync _ _ => false
  | .bprev _ => false
  | .pend _ => false
  | .mem _ => false

/-- The build and the moment let FORCE reach the register: its domain is out of reset (reset overrides everything,
R208, R231), and a button's register belongs to a present button (R20). MEM has no reset. DESIGN CHOICE (log 12). -/
def forceReaches (r : ForceReg) (s : State) : Bool :=
  match r with
  | .mem _ => true
  | .bsync b _ => present s.cfg b && !evInReset s
  | .bprev b => present s.cfg b && !evInReset s
  | .pend b => present s.cfg b && !evInReset s
  | _ => if inCoreDomain r then !coreInReset s else !evInReset s

/-- Set a register to a value cut to its width (R90 FORCE). CTRL keeps PWR hardwired on a build without power (R25). -/
def setRegister (r : ForceReg) (v : Nat) (s : State) : State :=
  match r with
  | .ctrl => writeCtrl (BitVec.ofNat 5 v) s
  | .wph => writeWph (BitVec.ofNat 7 v) s
  | .pph => writePph (BitVec.ofNat 5 v) s
  | .dreg => { s with dreg := v % 2 ^ s.cfg.dutyW }
  | .s1v => { s with s1v := v.testBit 0 }
  | .s2v => { s with s2v := v.testBit 0 }
  | .rptr => { s with rptr := BitVec.ofNat 4 v }
  | .wsync i => { s with wsync := setStage s.wsync i (BitVec.ofNat 4 v) }
  | .wptr => { s with wptr := BitVec.ofNat 4 v }
  | .rsync i => { s with rsync := setStage s.rsync i (BitVec.ofNat 4 v) }
  | .bsync b i => { s with bsync := setButton s.bsync b (setStage (perButton s.bsync b) i (v.testBit 0)) }
  | .bprev b => { s with bprev := setButton s.bprev b (v.testBit 0) }
  | .pend b => { s with pend := setButton s.pend b (v.testBit 0) }
  | .mem slot => { s with mem := slotWrite s.mem slot.toNat (BitVec.ofNat 2 v) }

/-- FORCE r v: an upset (R90, log 12). -/
def force (r : ForceReg) (v : Nat) (s : State) : State := if forceReaches r s then setRegister r v s else s

/-- One stimulus command (R90). -/
def runStim (c : Stim) (s : State) : Host.Outcome State Fault Refusal :=
  match c with
  | .env a => runEnv a s
  | .reset => .next (scriptReset s)
  | .force r v => .next (force r v s)

/-- One step of a well-formed build: the next command of the script if one waits, else the next act of the free
environment (R15, R216, log 2). -/
def advance (s : State) : Host.Outcome State Fault Refusal :=
  match s.stim with
  | c :: rest => runStim c { s with stim := rest }
  | [] => runEnv (Config.envAct s.now) { s with now := s.now + 1 }

/-! ### Commands and pseudo-commands (R90, R91), every draw taking the current value -/

/-- `PIN b v`. -/
def scriptPin (b : Button) (level : Bool) : List Stim := [.env (.pin b level)]

/-- `EV n`. -/
def scriptEv (n : Nat) : List Stim := List.replicate n (.env (.evEdge .current))

/-- `CORE n`. -/
def scriptCore (n : Nat) : List Stim := List.replicate n (.env (.coreEdge false .current))

/-- `TICK`. -/
def scriptTick : List Stim := [.env (.coreEdge true .current)]

/-- `PRESS b`: `PIN b 0; EV (S + 2); PIN b 1; EV (S + 1)` with S = 2. -/
def scriptPress (b : Button) : List Stim := scriptPin b false ++ scriptEv 4 ++ scriptPin b true ++ scriptEv 3

/-- `SYNCW`: `CORE S`. -/
def scriptSyncW : List Stim := scriptCore 2

/-- `SYNCR`: `EV S`. -/
def scriptSyncR : List Stim := scriptEv 2

/-- `DRAIN n`: `CORE 2; CORE n`. -/
def scriptDrain (n : Nat) : List Stim := scriptCore 2 ++ scriptCore n

/-- The state with a script loaded in front of the stimulus that waits. -/
def loadScript (cmds : List Stim) (s : State) : State := { s with stim := cmds ++ s.stim }

end Sys2Proof.Machine
end

