-- ==== Sys2Proof/Machine/Fetch.lean ====
section
/-!
DEFINITION. Placing an encoded operation where the next step takes it (log 18). The block has no program counter
(spec/10_state.md R21): a token is taken from the head of the FIFO (R112), a tick selection from CTRL[4:2] (R86), both
at a clk_core edge.
-/

namespace Sys2Proof.Machine

/-- The clk_core domain out of reset, with the given clk_core edge as the next command. -/
def readyForEdge (tick : Bool) (s : State) : State :=
  { s with rstN := true, rstCore := ⟨true, true⟩, stim := .env (.coreEdge tick .current) :: s.stim }

/-- The FIFO holding exactly one token, seen by the consumer. -/
def placeToken (t : Token) (s : State) : State :=
  readyForEdge false
    { s with
      mem := slotWrite s.mem s.rptr.toNat t
      wptr := s.rptr + 1
      wsync := ⟨gray (s.rptr + 1), gray (s.rptr + 1)⟩ }

/-- CTRL[4:2] holding a tick selection, with the FIFO empty in the consumer's view so that the edge runs the tick
alone. -/
def placeTick (sel : TickSel) (s : State) : State :=
  readyForEdge true
    (writeCtrl (sel ++ ctrlStr (readCtrl s)) { s with wsync := ⟨gray s.rptr, gray s.rptr⟩ })

/-- The state whose next step runs the operation a table word stands for; a word that is none changes nothing. -/
def placeWord (nbits w : Nat) (s : State) : State :=
  match formatOfWidth nbits w with
  | some .evt2 => placeToken (BitVec.ofNat 2 w) s
  | some .ticksel3 => placeTick (BitVec.ofNat 3 w) s
  | none => s

end Sys2Proof.Machine
end

