-- ==== Sys2Proof/Machine/Step.lean ====
section
/-!
DEFINITION. One step of the machine: one act of the environment or one stimulus command, which may be an edge of either
clock (spec/60_exceptions.md R216).
-/

namespace Sys2Proof.Machine

/-- One step. A build that breaks a constraint of R9 is refused (R9, R200); any other goes on (R200). -/
def step (s : State) : Host.Outcome State Fault Refusal :=
  if s.cfg.wf then advance s else .refused .illFormedConfig

/-- The state whose next step fetches and runs the operation of a table word (log 18). -/
def State.withFetchWord (s : State) (nbits w : Nat) : State := placeWord nbits w s

end Sys2Proof.Machine
end

