-- ==== Sys2Proof/Machine/Ports.lean ====
section
/-!
DEFINITION. The output ports (spec/10_state.md R44, R45, spec/43_duty_pipeline.md R182, R183): each is driven straight
from a register, the same for every channel.
-/

namespace Sys2Proof.Machine

/-- `duty_o[ch] = DREG` (R44). -/
def dutyO (s : State) (_ch : Fin Config.numChannels) : Nat := s.dreg

/-- `duty_we[ch] = S1V`, the set strobe (R44, R182). -/
def dutyWe (s : State) (_ch : Fin Config.numChannels) : Bool := s.s1v

/-- `commit[ch] = S2V`, the commit strobe (R44, R183). -/
def commitO (s : State) (_ch : Fin Config.numChannels) : Bool := s.s2v

/-- `status_o = CTRL` (R45). -/
def statusO (s : State) : Ctrl := readCtrl s

end Sys2Proof.Machine
end

