-- ==== Sys2Proof/Safety.lean ====
section
/-!
DEFINITION. The terms in which claims about the block are stated: what a run without upsets is, the unread tokens, the
positions of the pointers (spec/40_event_fifo.md R115), the legal values of the registers, the registers at reset, and
runs of acts and of edges.
-/

namespace Sys2Proof.Machine

/-! ### Builds, domains and registers -/

/-- The clk_ev domain takes its steps: it is out of reset (R217). -/
def evActive (s : State) : Prop := evInReset s = false

/-- The clk_core domain takes its steps: it is out of reset (R218). -/
def coreActive (s : State) : Prop := coreInReset s = false

/-- Every slot of the FIFO storage reads as before. -/
def SameMem (s t : State) : Prop := ∀ p : Ptr, memRead t p = memRead s p

/-- No upset is waiting in the stimulus (R90: FORCE models an upset). -/
def noUpset (cmds : List Stim) : Bool :=
  cmds.all fun c => match c with
    | .env _ => true
    | .reset => true
    | .force _ _ => false

/-- The priority of a button, b = 0, 1, 2 (R43, R105). -/
def buttonIndex : Button → Nat
  | .mode => 0
  | .strength => 1
  | .power => 2

/-- The clk_ev registers that R39 gives a reset value hold it. -/
def evAtReset (s : State) : Prop :=
  s.wptr = 0 ∧ s.rsync = ⟨0, 0⟩ ∧ s.bsync = ⟨⟨true, true⟩, ⟨true, true⟩, ⟨true, true⟩⟩ ∧
  s.bprev = ⟨true, true, true⟩ ∧ s.pend = ⟨false, false, false⟩

/-- The clk_core registers that R39 gives a reset value hold it. -/
def coreAtReset (s : State) : Prop :=
  s.ctrl = 0b10000#5 ∧ s.wph = 0 ∧ s.pph = 0 ∧ s.dreg = 0 ∧ s.s1v = false ∧ s.s2v = false ∧
  s.rptr = 0 ∧ s.wsync = ⟨0, 0⟩

/-- What a state in reset looks like (R230, R232): a domain in reset holds its reset values, and while rst_n is low so
do both domains, the change flags and the reset synchronisers. -/
def ResetHolds (s : State) : Prop :=
  (evInReset s = true → evAtReset s) ∧ (coreInReset s = true → coreAtReset s) ∧
  (s.rstN = false →
    s.rstEv = ⟨false, false⟩ ∧ s.rstCore = ⟨false, false⟩ ∧ s.wchg = false ∧ s.rchg = false)

/-- The legal values of the registers (R23, R25, R30, R31): MODE is a mode, PPH an index of PULSE_LUT, DREG fits
DUTY_W bits; on a build without power PWR is stored as 1 and the absent Power button is idle. No upset waits. -/
def LegalRegisters (s : State) : Prop :=
  ctrlMode (readCtrl s) ≠ 0b11#2 ∧ s.pph.toNat < 20 ∧ s.dreg < 2 ^ s.cfg.dutyW ∧
  (s.cfg.hasPower = false → ctrlPwr s.ctrl = 1#1 ∧ s.pend.power = false ∧ s.bprev.power = true ∧
    s.bsync.power = ⟨true, true⟩) ∧
  noUpset s.stim = true

/-! ### Positions of the FIFO (R67, R115) -/

/-- The number of unread tokens, W - R, from the pointers (R67). -/
def occupancy (s : State) : Nat := (s.wptr - s.rptr).toNat

/-- The unread tokens in the order of the slots R, R + 1, ..., W - 1 (R67). -/
def unread (s : State) : List Token :=
  (List.range (occupancy s)).map fun j => memRead s (s.rptr + BitVec.ofNat 4 j)

/-- The pointers and the stages of both synchronisers name the given absolute positions, which only grow from one to the next, at
most FIFO_DEPTH apart in all (R115); a set change flag leaves room for the older value of its draw (R109, R110); and
every unread slot has been written (R67). -/
def FifoPositions (s : State) (rs1 rs0 r ws1 ws0 w : Nat) : Prop :=
  rs1 ≤ rs0 ∧ rs0 ≤ r ∧ r ≤ ws1 ∧ ws1 ≤ ws0 ∧ ws0 ≤ w ∧ w ≤ rs1 + s.cfg.fifoDepth ∧
  s.rsync = ⟨gray (BitVec.ofNat 4 rs0), gray (BitVec.ofNat 4 rs1)⟩ ∧ s.rptr = BitVec.ofNat 4 r ∧
  s.wsync = ⟨gray (BitVec.ofNat 4 ws0), gray (BitVec.ofNat 4 ws1)⟩ ∧ s.wptr = BitVec.ofNat 4 w ∧
  (s.rchg = true → rs0 < r) ∧ (s.wchg = true → ws0 < w) ∧
  (∀ j, r ≤ j → j < w → (slotWritten s.mem (j % 16)).isSome = true)

/-- The FIFO has positions in that order (R115). -/
def FifoOrdered (s : State) : Prop := ∃ rs1 rs0 r ws1 ws0 w : Nat, FifoPositions s rs1 rs0 r ws1 ws0 w

/-! ### Runs -/

/-- The state after one act of the environment; an act always has one (no act faults or is refused, R200). -/
def afterAct (a : EnvAct) (s : State) : State :=
  match runEnv a s with
  | .next t => t
  | .fault _ => s
  | .refused _ => s

/-- The state after a list of acts. -/
def afterActs : List EnvAct → State → State
  | [], s => s
  | a :: rest, s => afterActs rest (afterAct a s)

/-- The act drives rst_n. -/
def drivesReset : EnvAct → Bool
  | .rstN _ => true
  | .pin _ _ => false
  | .evEdge _ => false
  | .coreEdge _ _ => false

/-- The act is a rising edge of clk_ev. -/
def isEvEdge : EnvAct → Bool
  | .evEdge _ => true
  | .rstN _ => false
  | .pin _ _ => false
  | .coreEdge _ _ => false

/-- The act is a rising edge of clk_core. -/
def isCoreEdge : EnvAct → Bool
  | .coreEdge _ _ => true
  | .rstN _ => false
  | .pin _ _ => false
  | .evEdge _ => false

/-- The token an act writes into the FIFO: the one ENQ accepts at a clk_ev edge (R106). -/
def writtenAt (a : EnvAct) (s : State) : List Token :=
  match a with
  | .evEdge _ => if evInReset s then [] else ((accepted s).map tokenOf).toList
  | .coreEdge _ _ => []
  | .pin _ _ => []
  | .rstN _ => []

/-- The token an act delivers to the dispatcher: the one POP takes at a clk_core edge (R112). -/
def deliveredAt (a : EnvAct) (s : State) : List Token :=
  match a with
  | .coreEdge _ _ => if coreInReset s then [] else (fetchToken s).toList
  | .evEdge _ => []
  | .pin _ _ => []
  | .rstN _ => []

/-- The tokens written over a run, in order. -/
def writtenIn : List EnvAct → State → List Token
  | [], _ => []
  | a :: rest, s => writtenAt a s ++ writtenIn rest (afterAct a s)

/-- The tokens delivered over a run, in order. -/
def deliveredIn : List EnvAct → State → List Token
  | [], _ => []
  | a :: rest, s => deliveredAt a s ++ deliveredIn rest (afterAct a s)

/-- The act is a control tick that selects the given operation (R150). -/
def ticksAs (i : Instr) (a : EnvAct) (s : State) : Bool :=
  match a with
  | .coreEdge tick _ => tick && !coreInReset s && decide (decodeTicksel3 (tickSelOf (readCtrl s)) = i)
  | .evEdge _ => false
  | .pin _ _ => false
  | .rstN _ => false

/-- How many ticks of a run select the given operation. -/
def ticksIn (i : Instr) : List EnvAct → State → Nat
  | [], _ => 0
  | a :: rest, s => (ticksAs i a s).toNat + ticksIn i rest (afterAct a s)

/-- The state after the given operation has been run n times in a row by `exec`. -/
def execTimes (i : Instr) : Nat → State → State
  | 0, s => s
  | n + 1, s =>
    match exec i (execTimes i n s) with
    | .next t => t
    | .fault _ => s
    | .refused _ => s

/-- The state after the given tokens have been dispatched one after the other. -/
def dispatchAll : List Token → State → State
  | [], s => s
  | tok :: rest, s =>
    match exec (decodeEvt2 tok) s with
    | .next t => dispatchAll rest t
    | .fault _ => s
    | .refused _ => s

/-- The state before the n-th of a series of clk_ev edges, with the levels the pins have at each of them. -/
def evRun (pins : Nat → PerButton Bool) (draws : Nat → Draw) (s : State) : Nat → State
  | 0 => s
  | n + 1 => evEdge (draws n) { evRun pins draws s n with btnN := pins n }

/-- The capture chain of every present button is idle: pin, synchroniser and previous value released, nothing pending
(R35, R36). -/
def captureIdle (s : State) : Prop :=
  ∀ b, present s.cfg b = true →
    perButton s.btnN b = true ∧ perButton s.bsync b = ⟨true, true⟩ ∧ perButton s.bprev b = true ∧
    perButton s.pend b = false

end Sys2Proof.Machine
end

