-- ==== Sys2Proof/Certificates/Slice0/Obligations.lean ====
section
/-!
DEFINITION. The statements for the provers. Rule numbers are those of spec/; OBLIGATIONS.json says of each which rules
it states. Every statement is for every build: `s.cfg` is free.
-/

open Sys2Proof Sys2Proof.Machine

/-! ### The nine operations: where they complete, what they give, what they leave -/

/-- MODE, token 0b00 (R131, R132): the mode steps modulo 3 on its 2-bit value, 0b11 going to 0b01, strength and power
stay, whatever the power is, and nothing else changes. -/
def Obligations.ModeTokenStepsModeModuloThree : Prop :=
  decodeEvt2 0b00#2 = .mode ∧ ∀ s : State, ∃ t : State, exec .mode s = .next t ∧
    (ctrlMode (readCtrl t)).toNat = ((ctrlMode (readCtrl s)).toNat + 1) % 3 ∧
    ctrlStr (readCtrl t) = ctrlStr (readCtrl s) ∧ ctrlPwr (readCtrl t) = ctrlPwr (readCtrl s) ∧
    t = { s with ctrl := t.ctrl } ∧ SameMem s t

/-- STRENGTH, token 0b01 (R133): the level goes up by one below 4 and from 4 to 1, mode and power stay, nothing else
changes. -/
def Obligations.StrengthTokenStepsStrengthAndWraps : Prop :=
  decodeEvt2 0b01#2 = .strength ∧ ∀ s : State, ∃ t : State, exec .strength s = .next t ∧
    strengthOf (readCtrl t) = (if strengthOf (readCtrl s) < 4 then strengthOf (readCtrl s) + 1 else 1) ∧
    ctrlMode (readCtrl t) = ctrlMode (readCtrl s) ∧ ctrlPwr (readCtrl t) = ctrlPwr (readCtrl s) ∧
    t = { s with ctrl := t.ctrl } ∧ SameMem s t

/-- POWER (R135, R136): with power the power bit flips and mode and strength stay; without power CTRL is unchanged. -/
def Obligations.PowerTokenTogglesPowerWherePresent : Prop :=
  ∀ s : State, ∃ t : State, exec .power s = .next t ∧
    (s.cfg.hasPower = true →
      ctrlPwr (readCtrl t) = ~~~ ctrlPwr (readCtrl s) ∧ ctrlMode (readCtrl t) = ctrlMode (readCtrl s) ∧
      ctrlStr (readCtrl t) = ctrlStr (readCtrl s)) ∧
    (s.cfg.hasPower = false → readCtrl t = readCtrl s) ∧
    t = { s with ctrl := t.ctrl } ∧ SameMem s t

/-- POWER on a build without power (R136): the arbiter never selects the Power button, and a 0b10 token that is popped
anyway is consumed and leaves CTRL unchanged, with PWR reading 1. -/
def Obligations.PowerTokenIsConsumedWithoutPower : Prop :=
  decodeEvt2 0b10#2 = .power ∧ tokenOf .mode ≠ 0b10#2 ∧ tokenOf .strength ≠ 0b10#2 ∧
  ∀ s : State, s.cfg.hasPower = false →
    arbiter s ≠ some .power ∧ ctrlPwr (readCtrl s) = 1#1 ∧
    ∀ (tick : Bool) (draw : Draw), coreActive s → fetchToken s = some 0b10#2 →
      ∃ t : State, coreEdge tick draw s = .next t ∧ readCtrl t = readCtrl s ∧ t.rptr = s.rptr + 1

/-- RSVD, token 0b11 (R137): no button writes it, it has no effect of its own, and the edge that pops it consumes it
and leaves CTRL unchanged. -/
def Obligations.ReservedTokenIsConsumedWithoutEffect : Prop :=
  decodeEvt2 0b11#2 = .rsvd ∧ (∀ b : Button, tokenOf b ≠ 0b11#2) ∧
  (∀ s : State, exec .rsvd s = .next s) ∧
  ∀ (s : State) (tick : Bool) (draw : Draw), coreActive s → fetchToken s = some 0b11#2 →
    ∃ t : State, coreEdge tick draw s = .next t ∧ t.ctrl = s.ctrl ∧ t.rptr = s.rptr + 1

/-- TICK_OFF, selection 0xx (R151): with power off the tick selects TICK_OFF whatever the mode, and it emits duty 0,
phases and everything else unchanged; a build without power never selects it. -/
def Obligations.PowerOffTickEmitsZeroAndFreezesPhases : Prop :=
  (∀ (modeBits : BitVec 2) (s : State), ∃ t : State, exec (.tickOff modeBits) s = .next t ∧
    t.dreg = 0 ∧ t.s1v = true ∧ t = { s with dreg := t.dreg, s1v := t.s1v } ∧ SameMem s t) ∧
  (∀ s : State, ctrlPwr (readCtrl s) = 0#1 →
    decodeTicksel3 (tickSelOf (readCtrl s)) = .tickOff (ctrlMode (readCtrl s))) ∧
  ∀ s : State, s.cfg.hasPower = false → ∀ modeBits, decodeTicksel3 (tickSelOf (readCtrl s)) ≠ .tickOff modeBits

/-- TICK_NORMAL, selection 100 (R152, R154): emits `(FULL_SCALE * strength) / 4 - DUTY_BIAS`, clamped at 0, no phase
advance. -/
def Obligations.NormalTickEmitsScaledStrength : Prop :=
  decodeTicksel3 0b100#3 = .tickNormal ∧ ∀ s : State, ∃ t : State, exec .tickNormal s = .next t ∧
    t.dreg = scale s.cfg (strengthOf (readCtrl s)) ∧
    (t.dreg : Int) = max 0 ((s.cfg.fullScale * strengthOf (readCtrl s) / 4 : Nat) - (s.cfg.dutyBias : Int)) ∧
    t.s1v = true ∧ t = { s with dreg := t.dreg, s1v := t.s1v } ∧ SameMem s t

/-- TICK_PULSED, selection 101 (R153, R61): the pulse phase steps modulo 20 first, upset values 20 to 31 included; the
duty is the scaled factor at the new phase, 4 at 0 to 9 and 1 at 10 to 19. -/
def Obligations.PulsedTickAdvancesThenEmitsTableFactor : Prop :=
  decodeTicksel3 0b101#3 = .tickPulsed ∧ ∀ s : State, ∃ t : State, exec .tickPulsed s = .next t ∧
    t.pph.toNat = (s.pph.toNat + 1) % 20 ∧
    (t.pph.toNat ≤ 9 → t.dreg = scale s.cfg 4) ∧ (10 ≤ t.pph.toNat → t.dreg = scale s.cfg 1) ∧
    t.s1v = true ∧ t = { s with pph := t.pph, dreg := t.dreg, s1v := t.s1v } ∧ SameMem s t

/-- TICK_WAVEFORM, selection 110 (R155): the wave phase steps modulo 128 first; the duty is the table entry at the new
phase, unscaled. -/
def Obligations.WaveformTickAdvancesThenEmitsSineEntry : Prop :=
  decodeTicksel3 0b110#3 = .tickWaveform ∧ ∀ s : State, ∃ t : State, exec .tickWaveform s = .next t ∧
    t.wph.toNat = (s.wph.toNat + 1) % 128 ∧
    s.cfg.sineLut.toList[(s.wph.toNat + 1) % 128]?.map BitVec.toNat = some t.dreg ∧
    t.s1v = true ∧ t = { s with wph := t.wph, dreg := t.dreg, s1v := t.s1v } ∧ SameMem s t

/-- TICK_UNDEF, selection 111 (R157): selected only with MODE = 0b11 and power on; nothing is emitted, DREG and the
phases stay. -/
def Obligations.UndefinedModeTickChangesNoOutput : Prop :=
  (∀ s : State, ∃ t : State, exec .tickUndef s = .next t ∧ t.s1v = false ∧ t = { s with s1v := false } ∧
    t.dreg = s.dreg ∧ t.wph = s.wph ∧ t.pph = s.pph ∧ SameMem s t) ∧
  ∀ c : Ctrl, decodeTicksel3 (tickSelOf c) = .tickUndef ↔ (ctrlPwr c = 1#1 ∧ ctrlMode c = 0b11#2)

/-! ### What a step runs -/

/-- A step of a well-formed build takes the next command of the stimulus, and with none waiting the next act of the
free environment, whatever that act is (log 2). -/
def Obligations.StepTakesNextCommandOrFreeAct : Prop :=
  ∀ s : State, s.cfg.wf = true →
    (∀ (c : Stim) (rest : List Stim), s.stim = c :: rest → step s = runStim c { s with stim := rest }) ∧
    (s.stim = [] → step s = runEnv (Config.envAct s.now) { s with now := s.now + 1 })

/-- A clk_core edge without a tick and with a token in the consumer view runs the decoded token, after the commit
stage, the write-pointer synchroniser and the pointer step of POP (R112, R130). -/
def Obligations.StepRunsDecodedTokenAtCoreEdge : Prop :=
  ∀ (s : State) (draw : Draw) (rest : List Stim) (tok : Token), s.cfg.wf = true → coreActive s →
    s.stim = .env (.coreEdge false draw) :: rest → fetchToken s = some tok →
    step s = exec (decodeEvt2 tok) (consume (capture none (clockCore draw { s with stim := rest })))

/-- A control tick with an empty consumer view runs the operation that CTRL[4:2] selects, after the commit stage and
the write-pointer synchroniser (R150). -/
def Obligations.StepRunsSelectedTickAtCoreEdge : Prop :=
  ∀ (s : State) (draw : Draw) (rest : List Stim), s.cfg.wf = true → coreActive s →
    s.stim = .env (.coreEdge true draw) :: rest → fetchToken s = none →
    step s = exec (decodeTicksel3 (tickSelOf (readCtrl s))) (clockCore draw { s with stim := rest })

/-- A pop and a tick at one edge: the tick is the one CTRL selected before the edge, and its duty and phases are those
of an edge without the pop; CTRL and the pointer are those of an edge without the tick (R27). -/
def Obligations.TickAtDispatchEdgeReadsOldCtrl : Prop :=
  ∀ (s : State) (draw : Draw) (tok : Token), coreActive s → fetchToken s = some tok →
    ∃ t u v : State, coreEdge true draw s = .next t ∧
      exec (decodeTicksel3 (tickSelOf (readCtrl s))) (clockCore draw s) = .next u ∧
      coreEdge false draw s = .next v ∧
      t.dreg = u.dreg ∧ t.s1v = u.s1v ∧ t.wph = u.wph ∧ t.pph = u.pph ∧
      t.ctrl = v.ctrl ∧ t.rptr = v.rptr ∧
      exec (decodeEvt2 tok) (consume (capture none (clockCore draw s))) = .next v

/-- The whole clk_core edge of R218, every right-hand side read before the edge. -/
def Obligations.CoreEdgeReadsEverythingBeforeTheEdge : Prop :=
  ∀ (s : State) (tick : Bool) (draw : Draw), coreActive s →
    ∃ t : State, coreEdge tick draw s = .next t ∧
      readCtrl t =
        (if 0 < (bin s.wsync.stage1 - s.rptr).toNat then
          (if memRead s s.rptr = 0b00#2 then advanceMode (readCtrl s)
           else if memRead s s.rptr = 0b01#2 then advanceStrength (readCtrl s)
           else if memRead s s.rptr = 0b10#2 ∧ s.cfg.hasPower = true then togglePower (readCtrl s)
           else readCtrl s)
         else readCtrl s) ∧
      t.rptr = (if 0 < (bin s.wsync.stage1 - s.rptr).toNat then s.rptr + 1 else s.rptr) ∧
      t.rchg = (if 0 < (bin s.wsync.stage1 - s.rptr).toNat then true else s.rchg) ∧
      t.pph = (if tick = true ∧ tickSelOf (readCtrl s) = 0b101#3 then nextPph s.pph else s.pph) ∧
      t.wph = (if tick = true ∧ tickSelOf (readCtrl s) = 0b110#3 then nextWph s.wph else s.wph) ∧
      t.dreg =
        (if tick = false then s.dreg
         else if ctrlPwr (readCtrl s) = 0#1 then 0
         else if tickSelOf (readCtrl s) = 0b100#3 then scale s.cfg (strengthOf (readCtrl s))
         else if tickSelOf (readCtrl s) = 0b101#3 then scale s.cfg (pulseFactor (nextPph s.pph).toNat)
         else if tickSelOf (readCtrl s) = 0b110#3 then sineDuty s.cfg (nextWph s.wph)
         else s.dreg) ∧
      t.s1v = (tick && decide (tickSelOf (readCtrl s) ≠ 0b111#3)) ∧
      t.s2v = s.s1v ∧
      t.wsync = ⟨if s.wchg = true ∧ draw = .older then gray (s.wptr - 1) else gray s.wptr, s.wsync.stage0⟩ ∧
      t.wchg = false ∧
      t = { s with
            ctrl := t.ctrl, wph := t.wph, pph := t.pph, dreg := t.dreg, s1v := t.s1v, s2v := t.s2v
            rptr := t.rptr, rchg := t.rchg, wsync := t.wsync, wchg := t.wchg } ∧
      SameMem s t

/-- The whole clk_ev edge of R217, every right-hand side read before the edge, with the ghost counter of R118. Two clauses
rest on the model's choices: that the registers of an absent button stay (log 8), and that the counter's increase is the
sum over the edge, a merge and a full drop counting two, and so do two merges (log 13). -/
def Obligations.EvEdgeReadsEverythingBeforeTheEdge : Prop :=
  ∀ (s : State) (draw : Draw), evActive s →
    let t := evEdge draw s
    (∀ b, present s.cfg b = true →
      perButton t.bsync b = ⟨perButton s.btnN b, (perButton s.bsync b).stage0⟩ ∧
      perButton t.bprev b = (perButton s.bsync b).stage1 ∧
      (perButton t.pend b = true ↔
        (perButton s.pend b = true ∧ arbiter s ≠ some b) ∨
        (perButton s.bprev b = true ∧ (perButton s.bsync b).stage1 = false))) ∧
    (∀ b, present s.cfg b = false →
      perButton t.bsync b = perButton s.bsync b ∧ perButton t.bprev b = perButton s.bprev b ∧
      perButton t.pend b = perButton s.pend b) ∧
    t.rsync = ⟨if s.rchg = true ∧ draw = .older then gray (s.rptr - 1) else gray s.rptr, s.rsync.stage0⟩ ∧
    t.rchg = false ∧
    (∀ b, arbiter s = some b → (s.wptr - bin s.rsync.stage1).toNat < s.cfg.fifoDepth →
      t.wptr = s.wptr + 1 ∧ t.wchg = true ∧ memRead t s.wptr = tokenOf b ∧
      ∀ p : Ptr, p ≠ s.wptr → memRead t p = memRead s p) ∧
    ((arbiter s = none ∨ s.cfg.fifoDepth ≤ (s.wptr - bin s.rsync.stage1).toNat) →
      t.wptr = s.wptr ∧ t.wchg = s.wchg ∧ SameMem s t) ∧
    t.drops = s.drops + (if arbiter s ≠ none ∧ s.cfg.fifoDepth ≤ countW s then 1 else 0) +
      ([Button.mode, Button.strength, Button.power].countP fun b => merges s b) ∧
    t = { s with
          bsync := t.bsync, bprev := t.bprev, pend := t.pend, rsync := t.rsync, rchg := t.rchg
          wptr := t.wptr, wchg := t.wchg, mem := t.mem, drops := t.drops }

/-! ### The event FIFO -/

/-- The arbiter takes the least present button with a pending edge, or none (R105). -/
def Obligations.ArbiterTakesLeastPendingButton : Prop :=
  ∀ (s : State) (b : Button),
    (arbiter s = some b ↔
      (present s.cfg b = true ∧ perButton s.pend b = true ∧
        ∀ b', present s.cfg b' = true → perButton s.pend b' = true → buttonIndex b ≤ buttonIndex b')) ∧
    (arbiter s = none ↔ ∀ b', present s.cfg b' = true → perButton s.pend b' = false)

/-- The full drop (R107): with a full producer view nothing is written, WPTR stays, the pending edge that was taken is
gone unless a new edge of the button falls at this edge, and apart from the capture chain and the read-pointer
synchroniser, which every edge moves, only the ghost counter changes. -/
def Obligations.FullProducerViewDropsTheEvent : Prop :=
  ∀ (s : State) (draw : Draw) (b : Button), evActive s → arbiter s = some b → s.cfg.fifoDepth ≤ countW s →
    let t := evEdge draw s
    t.wptr = s.wptr ∧ SameMem s t ∧ perButton t.pend b = fall s b ∧
    t = { s with
          bsync := t.bsync, bprev := t.bprev, pend := t.pend, rsync := t.rsync, rchg := t.rchg, drops := t.drops } ∧
    (∀ ch, dutyO t ch = dutyO s ch ∧ dutyWe t ch = dutyWe s ch ∧ commitO t ch = commitO s ch) ∧
    statusO t = statusO s ∧ s.drops < t.drops ∧ ((∀ b', merges s b' = false) → t.drops = s.drops + 1)

/-- A falling edge while the button's old edge still waits merges (R104): the latch holds one edge, and the edge from this
state and the one from the same state without the falling edge (BPREV[b] = 0) are equal but for the ghost counter, one
higher (R118). So the merged edge leaves no other trace and never becomes a FIFO entry. -/
def Obligations.SecondEdgeOfWaitingButtonMerges : Prop :=
  ∀ (s : State) (draw : Draw) (b : Button), evActive s → fall s b = true → perButton s.pend b = true →
    arbiter s ≠ some b →
    let unfallen := { s with bprev := setButton s.bprev b false }
    fall unfallen b = false ∧ (∀ b', b' ≠ b → fall unfallen b' = fall s b') ∧
    perButton (evEdge draw s).pend b = true ∧ s.drops < (evEdge draw s).drops ∧
    evEdge draw s = { evEdge draw unfallen with drops := (evEdge draw unfallen).drops + 1 }

/-- An empty consumer view: no pop, CTRL and RPTR keep their values, with or without a tick (R113). -/
def Obligations.EmptyConsumerViewKeepsCtrlAndReadPointer : Prop :=
  ∀ (s : State) (tick : Bool) (draw : Draw), coreActive s → countR s = 0 →
    ∃ t : State, coreEdge tick draw s = .next t ∧ t.ctrl = s.ctrl ∧ t.rptr = s.rptr ∧ t.rchg = s.rchg

/-- PRESS (R91, R101 to R107): from an idle capture chain, one press of b sets PEND[b] at the third clk_ev edge; the
fourth writes tok(b) into slot WPTR, or drops the event when the FIFO holds FIFO_DEPTH tokens; after the release the
capture chain is idle again. -/
def Obligations.PressWritesOneTokenAtTheFourthEdge : Prop :=
  ∀ (s : State) (b : Button), evActive s → present s.cfg b = true → captureIdle s →
    let edge := evEdge .current
    let third := edge^[3] (drivePin b false s)
    let fourth := edge third
    let done := edge^[3] (drivePin b true fourth)
    third.wptr = s.wptr ∧ perButton third.pend b = true ∧ perButton fourth.pend b = false ∧
    (occupancy s < s.cfg.fifoDepth → fourth.wptr = s.wptr + 1 ∧ memRead fourth s.wptr = tokenOf b ∧
      ∀ p : Ptr, p ≠ s.wptr → memRead fourth p = memRead s p) ∧
    (s.cfg.fifoDepth ≤ occupancy s → fourth.wptr = s.wptr ∧ SameMem s fourth) ∧
    done.wptr = fourth.wptr ∧ SameMem fourth done ∧ captureIdle done ∧ readCtrl done = readCtrl s

/-- Latency of one event (R114) with S = 2: four clk_ev edges after the pin falls the token is in the FIFO; it is
dispatched at the third clk_core edge with current draws, and at the fourth if the first draw is the older value. -/
def Obligations.EventIsDispatchedAtTheThirdCoreEdge : Prop :=
  ∀ (s : State) (b : Button) (k1 k2 k3 k4 : Bool), s.cfg.wf = true → evActive s → coreActive s →
    present s.cfg b = true → captureIdle s →
    s.wptr = s.rptr → s.wsync = ⟨gray s.wptr, gray s.wptr⟩ →
    let u := afterActs [.pin b false, .evEdge .current, .evEdge .current, .evEdge .current, .evEdge .current] s
    let two := afterActs [.coreEdge k1 .current, .coreEdge k2 .current] u
    let three := afterAct (.coreEdge k3 .current) two
    let lateThree := afterActs [.coreEdge k1 .older, .coreEdge k2 .current, .coreEdge k3 .current] u
    let lateFour := afterAct (.coreEdge k4 .current) lateThree
    two.rptr = s.rptr ∧ readCtrl two = readCtrl s ∧
    three.rptr = s.rptr + 1 ∧ readCtrl three = readCtrl (dispatchAll [tokenOf b] s) ∧
    lateThree.rptr = s.rptr ∧ readCtrl lateThree = readCtrl s ∧
    lateFour.rptr = s.rptr + 1 ∧ readCtrl lateFour = readCtrl (dispatchAll [tokenOf b] s)

/-- A button held down through reset makes exactly one event once the clk_ev domain is out of reset (R235). -/
def Obligations.HeldButtonMakesOneEventAfterReset : Prop :=
  ∀ (s : State) (b : Button) (n : Nat), s.cfg.wf = true → evActive s → evAtReset s → s.rptr = 0 → s.rchg = false →
    present s.cfg b = true → perButton s.btnN b = false →
    (∀ b', b' ≠ b → perButton s.btnN b' = true) → 4 ≤ n →
    ((evEdge .current)^[n] s).wptr = 1 ∧ memRead ((evEdge .current)^[n] s) 0 = tokenOf b

/-- The positions of R115: every step keeps the order of the positions that the pointers and both synchronisers name,
their bound FIFO_DEPTH, and that every unread slot has been written. -/
def Obligations.EveryStepKeepsFifoPositionsOrdered : Prop :=
  ∀ s t : State, FifoOrdered s → noUpset s.stim = true → step s = .next t →
    FifoOrdered t ∧ noUpset t.stim = true

/-- Both views of the occupancy are conservative: the producer never sees less than the true occupancy, the consumer never
more, and no view is above FIFO_DEPTH (R67, R108, R111). And the modular differences are exact: for any positions that the
registers name in order, the producer view is W - RS, the consumer view WS - R and the occupancy W - R (R115). -/
def Obligations.BothViewsBoundTheTrueOccupancy : Prop :=
  ∀ s : State, s.cfg.wf = true → FifoOrdered s →
    occupancy s ≤ countW s ∧ countR s ≤ occupancy s ∧ countW s ≤ s.cfg.fifoDepth ∧
    ∀ rs1 rs0 r ws1 ws0 w : Nat, FifoPositions s rs1 rs0 r ws1 ws0 w →
      countW s = w - rs1 ∧ countR s = ws1 - r ∧ occupancy s = w - r

/-- With FIFO_DEPTH unread tokens every event is dropped (R108 case a, source scenario X12). -/
def Obligations.FullFifoDropsEveryEvent : Prop :=
  ∀ (s : State) (draw : Draw), s.cfg.wf = true → FifoOrdered s → evActive s → occupancy s = s.cfg.fifoDepth →
    (evEdge draw s).wptr = s.wptr ∧ SameMem s (evEdge draw s) ∧ unread (evEdge draw s) = unread s

/-- A pop reads a slot written since reset, never the free contents of an unwritten one (R67). -/
def Obligations.PopReadsOnlyWrittenSlots : Prop :=
  ∀ (s : State) (tok : Token), s.cfg.wf = true → FifoOrdered s → fetchToken s = some tok →
    slotWritten s.mem s.rptr.toNat = some tok ∧ unread s ≠ []

/-- The FIFO over any run without a reset, whatever the order of edges, the draws, the pins and the ticks: the tokens
delivered, followed by those still unread, are the tokens unread at the start followed by those written, in order; and
at most FIFO_DEPTH are unread (R73). -/
def Obligations.FifoDeliversEachWrittenTokenOnceInOrder : Prop :=
  ∀ (acts : List EnvAct) (s : State), s.cfg.wf = true → FifoOrdered s →
    (acts.all fun a => !drivesReset a) = true →
    deliveredIn acts s ++ unread (afterActs acts s) = unread s ++ writtenIn acts s ∧
    (unread (afterActs acts s)).length ≤ s.cfg.fifoDepth

/-- Waiting time in the pending latch (R119): over any run of clk_ev edges that starts with nothing pending, if the
falling edges of each button are at least 3 edges apart, no edge merges, and an edge latched for button b is taken
within b + 1 edges. -/
def Obligations.SpacedEdgesNeverMergeAndAreTakenInTime : Prop :=
  ∀ (s : State) (pins : Nat → PerButton Bool) (draws : Nat → Draw) (len : Nat), evActive s →
    (∀ b, present s.cfg b = true → perButton s.pend b = false) →
    (∀ b i j, i < j → j < len → fall (evRun pins draws s i) b = true → fall (evRun pins draws s j) b = true →
      i + 3 ≤ j) →
    (∀ b n, n < len → merges (evRun pins draws s n) b = false) ∧
    (∀ b n, n + buttonIndex b + 1 < len → fall (evRun pins draws s n) b = true →
      ∃ k, 1 ≤ k ∧ k ≤ buttonIndex b + 1 ∧ arbiter (evRun pins draws s (n + k)) = some b)

/-- At the fastest rate, one falling edge of Mode and of Strength every 2 clk_ev edges, the Power button can wait
without bound (R119). -/
def Obligations.FastModeAndStrengthCanStarvePower : Prop :=
  ∀ s : State, evActive s → s.cfg.hasPower = true →
    s.pend = ⟨true, false, true⟩ → s.bprev.strength = true → s.bsync.strength = ⟨true, false⟩ →
    s.bprev.mode = false → s.bsync.mode = ⟨false, true⟩ →
    ∃ pins : Nat → PerButton Bool, ∀ (draws : Nat → Draw) (n : Nat),
      perButton (evRun pins draws s n).pend .power = true ∧ arbiter (evRun pins draws s n) ≠ some .power

/-! ### The state machine -/

/-- The laws of the transitions for a legal CTRL (R138): the value after a sequence of tokens depends only on how many
of each kind it holds, counted modulo 3, 4 and 2; so three MODE, four STRENGTH or two POWER tokens change nothing and
the order of tokens does not matter. -/
def Obligations.CtrlDependsOnlyOnTokenCounts : Prop :=
  ∀ (s : State) (l l' : List Token), ctrlMode (readCtrl s) ≠ 0b11#2 →
    l.count 0b00#2 % 3 = l'.count 0b00#2 % 3 → l.count 0b01#2 % 4 = l'.count 0b01#2 % 4 →
    l.count 0b10#2 % 2 = l'.count 0b10#2 % 2 →
    readCtrl (dispatchAll l s) = readCtrl (dispatchAll l' s)

/-- A dispatch of any sequence of tokens has no output side effect of its own: it writes neither DREG, the phase
counters, the strobes nor the FIFO (R130 corner case b). -/
def Obligations.DispatchesChangeNothingButCtrl : Prop :=
  ∀ (s : State) (l : List Token), dispatchAll l s = { s with ctrl := (dispatchAll l s).ctrl }

/-! ### The output generator and the duty pipeline -/

/-- Normal-mode duty strictly increases with strength (R159). -/
def Obligations.NormalDutyStrictlyIncreasesWithStrength : Prop :=
  ∀ c : Config, c.wf = true → ∀ v w : Nat, 1 ≤ v → v < w → w ≤ 4 → scale c v < scale c w

/-- Every scaled duty fits the register: at most FULL_SCALE - DUTY_BIAS and below 2^DUTY_W; the clamp gives 0 for
factor 0 (R154). -/
def Obligations.ScaledDutyFitsItsRegister : Prop :=
  ∀ c : Config, c.wf = true → scale c 0 = 0 ∧
    ∀ v : Nat, v ≤ 4 → scale c v ≤ c.fullScale - c.dutyBias ∧ scale c v < 2 ^ c.dutyW

/-- Waveform output (R160): the j-th of k consecutive Waveform ticks from WPH = w0 emits
SINE_LUT[(w0 + j) mod 128]. -/
def Obligations.WaveformTicksReproduceTheTableInOrder : Prop :=
  ∀ (s : State) (j : Nat),
    (execTimes .tickWaveform (j + 1) s).wph.toNat = (s.wph.toNat + (j + 1)) % 128 ∧
    s.cfg.sineLut.toList[(s.wph.toNat + (j + 1)) % 128]?.map BitVec.toNat =
      some (execTimes .tickWaveform (j + 1) s).dreg

/-- Pulsed output (R161): the j-th of k consecutive Pulsed ticks from PPH = p0 emits the scaled factor 4 or 1 of index
(p0 + j) mod 20. -/
def Obligations.PulsedTicksReproduceThePatternInOrder : Prop :=
  ∀ (s : State) (j : Nat),
    (execTimes .tickPulsed (j + 1) s).pph.toNat = (s.pph.toNat + (j + 1)) % 20 ∧
    (execTimes .tickPulsed (j + 1) s).dreg =
      scale s.cfg (if (s.pph.toNat + (j + 1)) % 20 < 10 then 4 else 1)

/-- Phase counters over any run without a reset (R158): WPH counts the Waveform ticks modulo 128 and PPH the Pulsed
ticks modulo 20; no mode change, strength change, power toggle or other tick touches them, so without a Pulsed tick
PPH keeps even an upset value. -/
def Obligations.PhaseCountersCountTheirOwnTicks : Prop :=
  ∀ (acts : List EnvAct) (s : State), (acts.all fun a => !drivesReset a) = true →
    (afterActs acts s).wph.toNat = (s.wph.toNat + ticksIn .tickWaveform acts s) % 128 ∧
    (ticksIn .tickPulsed acts s = 0 → (afterActs acts s).pph = s.pph) ∧
    (s.pph.toNat < 20 →
      (afterActs acts s).pph.toNat = (s.pph.toNat + ticksIn .tickPulsed acts s) % 20)

/-- Pulsed and Waveform output do not depend on strength (R156): two states that differ only in STR go through the
same edge with the same duty, strobes and phases. -/
def Obligations.StrengthDoesNotReachPulsedOrWaveformOutput : Prop :=
  ∀ (s : State) (str : BitVec 2) (tick : Bool) (draw : Draw), coreActive s →
    (tickSelOf (readCtrl s) = 0b101#3 ∨ tickSelOf (readCtrl s) = 0b110#3) →
    ∃ t u : State, coreEdge tick draw s = .next t ∧
      coreEdge tick draw { s with ctrl := packCtrl (ctrlPwr s.ctrl) (ctrlMode s.ctrl) str } = .next u ∧
      t.dreg = u.dreg ∧ t.s1v = u.s1v ∧ t.s2v = u.s2v ∧ t.wph = u.wph ∧ t.pph = u.pph

/-- Set, then commit (R182, R183, R186): a tick that emits is followed by the set strobe on every channel in the next
cycle and by the commit strobe in the cycle after, with the same duty on duty_o through both, when no tick comes in
between; then both strobes rest. -/
def Obligations.EmittedDutyIsSetThenCommittedOnEveryChannel : Prop :=
  ∀ (s : State) (d1 d2 d3 : Draw), coreActive s →
    decodeTicksel3 (tickSelOf (readCtrl s)) ≠ .tickUndef →
    ∃ t u v : State, coreEdge true d1 s = .next t ∧ coreEdge false d2 t = .next u ∧ coreEdge false d3 u = .next v ∧
      ∀ ch, dutyWe t ch = true ∧ dutyWe u ch = false ∧ commitO u ch = true ∧
        dutyO u ch = dutyO t ch ∧ dutyWe v ch = false ∧ commitO v ch = false ∧ dutyO v ch = dutyO t ch

/-- A tick in the undefined mode is followed by no strobe, and duty_o stays (R157, R180). -/
def Obligations.UndefinedModeTickIsFollowedByNoStrobe : Prop :=
  ∀ (s : State) (d1 d2 : Draw), coreActive s → tickSelOf (readCtrl s) = 0b111#3 →
    ∃ t u : State, coreEdge true d1 s = .next t ∧ coreEdge false d2 t = .next u ∧
      ∀ ch, dutyWe t ch = false ∧ dutyO t ch = dutyO s ch ∧ commitO u ch = false ∧ dutyO u ch = dutyO s ch

/-- The outputs are the registers, the same on every channel (R44, R45). -/
def Obligations.OutputsAreDrivenFromRegisters : Prop :=
  ∀ (s : State) (ch : Fin 4),
    dutyO s ch = s.dreg ∧ dutyWe s ch = s.s1v ∧ commitO s ch = s.s2v ∧ statusO s = readCtrl s

/-! ### Registers, builds and ownership -/

/-- Every step keeps the registers legal: MODE is one of the three modes, PPH below 20, DREG within DUTY_W bits, PWR
fixed on a build without power. That the registers of the absent Power button rest at their reset values is the
model's choice (log 8), and so is holding DREG as a natural (log 9). -/
def Obligations.EveryStepKeepsRegistersLegal : Prop :=
  ∀ s t : State, LegalRegisters s → step s = .next t → LegalRegisters t

/-- Every step, upsets included, keeps the FIFO storage in its canonical form, which is the model's (log 4). -/
def Obligations.EveryStepKeepsStorageCanonical : Prop :=
  ∀ s t : State, Memory.wf s.mem → step s = .next t → Memory.wf t.mem

/-- Every step, upsets included, keeps a domain that is in reset at its reset values (R230, R232). Three parts are the
model's own: that FORCE cannot reach a register in reset, which is what lets upsets in (log 12); that the registers of an
absent Power button are among those that hold their reset values (log 8); and the values of the reset synchronisers
themselves, a reading of R232 (log 5). -/
def Obligations.EveryStepKeepsResetValuesInReset : Prop :=
  ∀ s t : State, ResetHolds s → step s = .next t → ResetHolds t

/-- No step changes the build (R9: its parameters are fixed at build time). -/
def Obligations.NoStepChangesTheBuild : Prop :=
  ∀ s t : State, step s = .next t → t.cfg = s.cfg

/-- A build that breaks a constraint of R9 is refused, and on any other every step goes on: there is no fault and no
other refusal (R9, R200). -/
def Obligations.OnlyAnIllFormedBuildStops : Prop :=
  ∀ s : State,
    ((1 ≤ s.cfg.fifoDepth ∧ s.cfg.fifoDepth ≤ 2 ^ 4 - 1 ∧ 4 ≤ s.cfg.fullScale ∧
        s.cfg.fullScale - s.cfg.dutyBias ≤ 2 ^ s.cfg.dutyW - 1 ∧ (s.cfg.dutyBias = 0 ∨ s.cfg.dutyBias = 1) ∧
        16 ≤ s.cfg.dutyW) → ∃ t : State, step s = .next t) ∧
    (¬ (1 ≤ s.cfg.fifoDepth ∧ s.cfg.fifoDepth ≤ 2 ^ 4 - 1 ∧ 4 ≤ s.cfg.fullScale ∧
        s.cfg.fullScale - s.cfg.dutyBias ≤ 2 ^ s.cfg.dutyW - 1 ∧ (s.cfg.dutyBias = 0 ∨ s.cfg.dutyBias = 1) ∧
        16 ≤ s.cfg.dutyW) → step s = .refused .illFormedConfig)

/-- Each register has its own writer (R20, R211): an act that is no clk_core edge and drives no reset leaves CTRL, the
phases, DREG, the strobes, RPTR and WSYNC; an act that is no clk_ev edge leaves WPTR, RSYNC, the button registers and
MEM; and CTRL changes only at an edge that pops a token. -/
def Obligations.EachRegisterHasItsOwnWriter : Prop :=
  ∀ (a : EnvAct) (s : State), drivesReset a = false →
    (isCoreEdge a = false →
      (afterAct a s).ctrl = s.ctrl ∧ (afterAct a s).wph = s.wph ∧ (afterAct a s).pph = s.pph ∧
      (afterAct a s).dreg = s.dreg ∧ (afterAct a s).s1v = s.s1v ∧ (afterAct a s).s2v = s.s2v ∧
      (afterAct a s).rptr = s.rptr ∧ (afterAct a s).wsync = s.wsync) ∧
    (isEvEdge a = false →
      (afterAct a s).wptr = s.wptr ∧ (afterAct a s).rsync = s.rsync ∧ (afterAct a s).bsync = s.bsync ∧
      (afterAct a s).bprev = s.bprev ∧ (afterAct a s).pend = s.pend ∧ SameMem s (afterAct a s)) ∧
    ((afterAct a s).ctrl ≠ s.ctrl → deliveredAt a s ≠ [])

/-- On a build without power PWR reads 1 after every write, and no tick selects TICK_OFF (R25, R151). -/
def Obligations.PowerIsHardwiredOnWithoutPower : Prop :=
  ∀ (s : State) (v : Ctrl), s.cfg.hasPower = false →
    ctrlPwr (readCtrl s) = 1#1 ∧ ctrlPwr (readCtrl (writeCtrl v s)) = 1#1 ∧
    ∀ modeBits, decodeTicksel3 (tickSelOf (readCtrl s)) ≠ .tickOff modeBits

/-! ### Reset -/

/-- The state after reset of any build holds the values of the reset table, outputs included (R39). -/
def Obligations.ResetStateHoldsTheResetTable : Prop :=
  ∀ c : Config, evAtReset (State.resetOf c) ∧ coreAtReset (State.resetOf c) ∧
    readCtrl (State.resetOf c) = 0b10000#5 ∧ statusO (State.resetOf c) = 0b10000#5 ∧
    (∀ ch, dutyO (State.resetOf c) ch = 0 ∧ dutyWe (State.resetOf c) ch = false ∧
      commitO (State.resetOf c) ch = false) ∧
    (State.resetOf c).wchg = false ∧ (State.resetOf c).rchg = false

/-- The state after reset of every well-formed build meets every invariant stated here. That `State.reset` is the one
of REF-A is the model's choice (log 1). -/
def Obligations.ResetStateMeetsEveryInvariant : Prop :=
  (∀ c : Config, c.wf = true → FifoOrdered (State.resetOf c) ∧ LegalRegisters (State.resetOf c) ∧
    ResetHolds (State.resetOf c) ∧ Memory.wf (State.resetOf c).mem) ∧
  State.reset.cfg.wf = true ∧ State.reset = State.resetOf Config.refA

/-- Driving rst_n low resets every register of both domains at once, with no clock edge, from any state; what waits in
PEND or in the FIFO is lost (R230, R231). That the pins' levels and the waiting stimulus stay is the model's choice
(log 2, log 7). -/
def Obligations.AssertingResetResetsEveryRegisterAtOnce : Prop :=
  ∀ (s : State) (rest : List Stim), s.cfg.wf = true → s.stim = .env (.rstN false) :: rest →
    ∃ t : State, step s = .next t ∧ evAtReset t ∧ coreAtReset t ∧ t.wchg = false ∧ t.rchg = false ∧
      statusO t = 0b10000#5 ∧ (∀ ch, dutyO t ch = 0 ∧ dutyWe t ch = false ∧ commitO t ch = false) ∧
      unread t = [] ∧ t.rstN = false ∧ t.btnN = s.btnN ∧ t.stim = rest

/-- While rst_n is low no edge, no tick and no pin change alters any register: only the pins themselves move (R230,
R231). That the reset synchronisers do not move either is the model's reading of R232 (log 5). -/
def Obligations.NothingButThePinsMovesDuringReset : Prop :=
  ∀ (acts : List EnvAct) (s : State), s.rstN = false → (acts.all fun a => !drivesReset a) = true →
    afterActs acts s = { s with btnN := (afterActs acts s).btnN }

/-- After rst_n rises each domain leaves reset after two edges of its own clock, whatever the other clock does (R232
with SYNC_STAGES = 2). That the third edge is the first one the domain works at is the model's reading of this rule
(log 5). -/
def Obligations.EachDomainLeavesResetAfterTwoOwnEdges : Prop :=
  ∀ (acts : List EnvAct) (s : State), s.rstN = false → ResetHolds s →
    (acts.all fun a => !drivesReset a) = true →
    evInReset (afterActs acts (releaseReset s)) = decide ((acts.filter isEvEdge).length < 2) ∧
    coreInReset (afterActs acts (releaseReset s)) = decide ((acts.filter isCoreEdge).length < 2)

/-- An edge of a domain still in reset after rst_n has risen moves that domain's reset synchroniser and clears its change
flag, as each edge of the clock does (R109, R110), and changes nothing else (R230, R232). So the first edge the domain
works at draws only if the pointer changed after this edge. That the clearing holds in reset too is the model's reading
(log 14), and so is the synchroniser (log 5). -/
def Obligations.EdgeInResetClearsChangeFlagAndMovesSynchroniser : Prop :=
  ∀ (s : State) (tick : Bool) (draw : Draw), s.rstN = true →
    (evInReset s = true →
      evEdge draw s = { s with rstEv := ⟨true, s.rstEv.stage0⟩, rchg := false }) ∧
    (coreInReset s = true →
      coreEdge tick draw s = .next { s with rstCore := ⟨true, s.rstCore.stage0⟩, wchg := false })

/-! ### Encodings -/

/-- Decoding the encoding of any operation gives it back, and every code of a format is the encoding of what it
decodes to (R80, R84, R86). That this holds for each of the four TICKSEL3 codes 0xx is the model's choice: its TICK_OFF
carries the two bits that its row leaves free (log 16). -/
def Obligations.DecodeAndEncodeAgree : Prop :=
  (∀ i : Instr, decodeWord (formatOf i) (encode i) = .ok i) ∧
  (∀ t : Token, formatOf (decodeEvt2 t) = .evt2 ∧ encode (decodeEvt2 t) = t.toNat) ∧
  (∀ sel : TickSel, formatOf (decodeTicksel3 sel) = .ticksel3 ∧ encode (decodeTicksel3 sel) = sel.toNat)

/-- The whole path of an encoded operation: on any well-formed build and from any state, placing the encoding of an
operation where the machine takes it, a token at the head of the FIFO or a selection in CTRL[4:2], makes the very next
step fetch it, decode it and run exactly it, with what an edge does around it. A build without power has no place for
TICK_OFF, its PWR bit being hardwired to 1 (R25). Where an operation is placed is the model's choice (log 18). -/
def Obligations.EncodedOperationIsFetchedDecodedAndRun : Prop :=
  ∀ (i : Instr) (s : State), s.cfg.wf = true →
    (s.cfg.hasPower = false → ∀ modeBits, i ≠ .tickOff modeBits) →
    let placed := s.withFetchWord (formatOf i).width (encode i)
    (formatOf i = .evt2 →
      fetchToken placed = some (BitVec.ofNat 2 (encode i)) ∧
      step placed = exec i (consume (capture none (clockCore .current { placed with stim := s.stim })))) ∧
    (formatOf i = .ticksel3 →
      tickSelOf (readCtrl placed) = BitVec.ofNat 3 (encode i) ∧
      ctrlStr (readCtrl placed) = ctrlStr (readCtrl s) ∧
      step placed = exec i (clockCore .current { placed with stim := s.stim }))

/-- The words of the tables of R84 and R86, one of each kind, decode to their operations. -/
def Obligations.WrittenOutWordsDecodeAsTheTablesSay : Prop :=
  decodeEvt2 0b00#2 = .mode ∧ decodeEvt2 0b01#2 = .strength ∧ decodeEvt2 0b10#2 = .power ∧
  decodeEvt2 0b11#2 = .rsvd ∧ decodeTicksel3 0b010#3 = .tickOff 0b10#2 ∧ decodeTicksel3 0b100#3 = .tickNormal ∧
  decodeTicksel3 0b101#3 = .tickPulsed ∧ decodeTicksel3 0b110#3 = .tickWaveform ∧
  decodeTicksel3 0b111#3 = .tickUndef

/-- The token of button b is b, and it decodes to the button's transition (R84, R85). -/
def Obligations.ButtonTokensDecodeToTheirTransitions : Prop :=
  (∀ b : Button, (tokenOf b).toNat = buttonIndex b) ∧
  decodeEvt2 (tokenOf .mode) = .mode ∧ decodeEvt2 (tokenOf .strength) = .strength ∧
  decodeEvt2 (tokenOf .power) = .power

/-- The Gray code of the pointers (R13): `b XOR (b >> 1)`; bit i of `bin` is the XOR of the bits from i up; `bin`
inverts `gray`; and consecutive values, the wrap included, differ in exactly one bit. -/
def Obligations.GrayCodeIsInvertedAndChangesOneBit : Prop :=
  ∀ b : Ptr, gray b = b ^^^ (b >>> 1) ∧
    (bin b).getLsbD 3 = b.getLsbD 3 ∧
    (bin b).getLsbD 2 = (b.getLsbD 2 ^^ b.getLsbD 3) ∧
    (bin b).getLsbD 1 = (b.getLsbD 1 ^^ b.getLsbD 2 ^^ b.getLsbD 3) ∧
    (bin b).getLsbD 0 = (b.getLsbD 0 ^^ b.getLsbD 1 ^^ b.getLsbD 2 ^^ b.getLsbD 3) ∧
    bin (gray b) = b ∧ gray (bin b) = b ∧
    ∃ i : Fin 4, gray (b + 1) ^^^ gray b = BitVec.ofNat 4 (2 ^ i.val)
end

