-- ==== Sys2Proof/Laws/State.lean ====
section
/-!
SUPPORT. One lemma per field per named update of the state, true by `rfl`, so that no later proof unfolds a record
update. The updates are those of Machine/Ops.lean, Machine/Flags.lean, Machine/Producer.lean and
Machine/Consumer.lean.
-/

namespace Sys2Proof.Machine

/-! ### writeCtrl -/

@[simp] theorem writeCtrl_cfg (v : Ctrl) (s : State) : (writeCtrl v s).cfg = s.cfg := rfl
@[simp] theorem writeCtrl_ctrl (v : Ctrl) (s : State) : (writeCtrl v s).ctrl = hardwirePwr s.cfg v := rfl
@[simp] theorem writeCtrl_wph (v : Ctrl) (s : State) : (writeCtrl v s).wph = s.wph := rfl
@[simp] theorem writeCtrl_pph (v : Ctrl) (s : State) : (writeCtrl v s).pph = s.pph := rfl
@[simp] theorem writeCtrl_dreg (v : Ctrl) (s : State) : (writeCtrl v s).dreg = s.dreg := rfl
@[simp] theorem writeCtrl_s1v (v : Ctrl) (s : State) : (writeCtrl v s).s1v = s.s1v := rfl
@[simp] theorem writeCtrl_s2v (v : Ctrl) (s : State) : (writeCtrl v s).s2v = s.s2v := rfl
@[simp] theorem writeCtrl_rptr (v : Ctrl) (s : State) : (writeCtrl v s).rptr = s.rptr := rfl
@[simp] theorem writeCtrl_wsync (v : Ctrl) (s : State) : (writeCtrl v s).wsync = s.wsync := rfl
@[simp] theorem writeCtrl_wptr (v : Ctrl) (s : State) : (writeCtrl v s).wptr = s.wptr := rfl
@[simp] theorem writeCtrl_rsync (v : Ctrl) (s : State) : (writeCtrl v s).rsync = s.rsync := rfl
@[simp] theorem writeCtrl_bsync (v : Ctrl) (s : State) : (writeCtrl v s).bsync = s.bsync := rfl
@[simp] theorem writeCtrl_bprev (v : Ctrl) (s : State) : (writeCtrl v s).bprev = s.bprev := rfl
@[simp] theorem writeCtrl_pend (v : Ctrl) (s : State) : (writeCtrl v s).pend = s.pend := rfl
@[simp] theorem writeCtrl_mem (v : Ctrl) (s : State) : (writeCtrl v s).mem = s.mem := rfl
@[simp] theorem writeCtrl_wchg (v : Ctrl) (s : State) : (writeCtrl v s).wchg = s.wchg := rfl
@[simp] theorem writeCtrl_rchg (v : Ctrl) (s : State) : (writeCtrl v s).rchg = s.rchg := rfl
@[simp] theorem writeCtrl_drops (v : Ctrl) (s : State) : (writeCtrl v s).drops = s.drops := rfl
@[simp] theorem writeCtrl_rstN (v : Ctrl) (s : State) : (writeCtrl v s).rstN = s.rstN := rfl
@[simp] theorem writeCtrl_rstEv (v : Ctrl) (s : State) : (writeCtrl v s).rstEv = s.rstEv := rfl
@[simp] theorem writeCtrl_rstCore (v : Ctrl) (s : State) : (writeCtrl v s).rstCore = s.rstCore := rfl
@[simp] theorem writeCtrl_btnN (v : Ctrl) (s : State) : (writeCtrl v s).btnN = s.btnN := rfl
@[simp] theorem writeCtrl_stim (v : Ctrl) (s : State) : (writeCtrl v s).stim = s.stim := rfl
@[simp] theorem writeCtrl_now (v : Ctrl) (s : State) : (writeCtrl v s).now = s.now := rfl
@[simp] theorem writeCtrl_epoch (v : Ctrl) (s : State) : (writeCtrl v s).epoch = s.epoch := rfl

/-! ### writeWph -/

@[simp] theorem writeWph_cfg (w : WavePhase) (s : State) : (writeWph w s).cfg = s.cfg := rfl
@[simp] theorem writeWph_ctrl (w : WavePhase) (s : State) : (writeWph w s).ctrl = s.ctrl := rfl
@[simp] theorem writeWph_wph (w : WavePhase) (s : State) : (writeWph w s).wph = w := rfl
@[simp] theorem writeWph_pph (w : WavePhase) (s : State) : (writeWph w s).pph = s.pph := rfl
@[simp] theorem writeWph_dreg (w : WavePhase) (s : State) : (writeWph w s).dreg = s.dreg := rfl
@[simp] theorem writeWph_s1v (w : WavePhase) (s : State) : (writeWph w s).s1v = s.s1v := rfl
@[simp] theorem writeWph_s2v (w : WavePhase) (s : State) : (writeWph w s).s2v = s.s2v := rfl
@[simp] theorem writeWph_rptr (w : WavePhase) (s : State) : (writeWph w s).rptr = s.rptr := rfl
@[simp] theorem writeWph_wsync (w : WavePhase) (s : State) : (writeWph w s).wsync = s.wsync := rfl
@[simp] theorem writeWph_wptr (w : WavePhase) (s : State) : (writeWph w s).wptr = s.wptr := rfl
@[simp] theorem writeWph_rsync (w : WavePhase) (s : State) : (writeWph w s).rsync = s.rsync := rfl
@[simp] theorem writeWph_bsync (w : WavePhase) (s : State) : (writeWph w s).bsync = s.bsync := rfl
@[simp] theorem writeWph_bprev (w : WavePhase) (s : State) : (writeWph w s).bprev = s.bprev := rfl
@[simp] theorem writeWph_pend (w : WavePhase) (s : State) : (writeWph w s).pend = s.pend := rfl
@[simp] theorem writeWph_mem (w : WavePhase) (s : State) : (writeWph w s).mem = s.mem := rfl
@[simp] theorem writeWph_wchg (w : WavePhase) (s : State) : (writeWph w s).wchg = s.wchg := rfl
@[simp] theorem writeWph_rchg (w : WavePhase) (s : State) : (writeWph w s).rchg = s.rchg := rfl
@[simp] theorem writeWph_drops (w : WavePhase) (s : State) : (writeWph w s).drops = s.drops := rfl
@[simp] theorem writeWph_rstN (w : WavePhase) (s : State) : (writeWph w s).rstN = s.rstN := rfl
@[simp] theorem writeWph_rstEv (w : WavePhase) (s : State) : (writeWph w s).rstEv = s.rstEv := rfl
@[simp] theorem writeWph_rstCore (w : WavePhase) (s : State) : (writeWph w s).rstCore = s.rstCore := rfl
@[simp] theorem writeWph_btnN (w : WavePhase) (s : State) : (writeWph w s).btnN = s.btnN := rfl
@[simp] theorem writeWph_stim (w : WavePhase) (s : State) : (writeWph w s).stim = s.stim := rfl
@[simp] theorem writeWph_now (w : WavePhase) (s : State) : (writeWph w s).now = s.now := rfl
@[simp] theorem writeWph_epoch (w : WavePhase) (s : State) : (writeWph w s).epoch = s.epoch := rfl

/-! ### writePph -/

@[simp] theorem writePph_cfg (p : PulsePhase) (s : State) : (writePph p s).cfg = s.cfg := rfl
@[simp] theorem writePph_ctrl (p : PulsePhase) (s : State) : (writePph p s).ctrl = s.ctrl := rfl
@[simp] theorem writePph_wph (p : PulsePhase) (s : State) : (writePph p s).wph = s.wph := rfl
@[simp] theorem writePph_pph (p : PulsePhase) (s : State) : (writePph p s).pph = p := rfl
@[simp] theorem writePph_dreg (p : PulsePhase) (s : State) : (writePph p s).dreg = s.dreg := rfl
@[simp] theorem writePph_s1v (p : PulsePhase) (s : State) : (writePph p s).s1v = s.s1v := rfl
@[simp] theorem writePph_s2v (p : PulsePhase) (s : State) : (writePph p s).s2v = s.s2v := rfl
@[simp] theorem writePph_rptr (p : PulsePhase) (s : State) : (writePph p s).rptr = s.rptr := rfl
@[simp] theorem writePph_wsync (p : PulsePhase) (s : State) : (writePph p s).wsync = s.wsync := rfl
@[simp] theorem writePph_wptr (p : PulsePhase) (s : State) : (writePph p s).wptr = s.wptr := rfl
@[simp] theorem writePph_rsync (p : PulsePhase) (s : State) : (writePph p s).rsync = s.rsync := rfl
@[simp] theorem writePph_bsync (p : PulsePhase) (s : State) : (writePph p s).bsync = s.bsync := rfl
@[simp] theorem writePph_bprev (p : PulsePhase) (s : State) : (writePph p s).bprev = s.bprev := rfl
@[simp] theorem writePph_pend (p : PulsePhase) (s : State) : (writePph p s).pend = s.pend := rfl
@[simp] theorem writePph_mem (p : PulsePhase) (s : State) : (writePph p s).mem = s.mem := rfl
@[simp] theorem writePph_wchg (p : PulsePhase) (s : State) : (writePph p s).wchg = s.wchg := rfl
@[simp] theorem writePph_rchg (p : PulsePhase) (s : State) : (writePph p s).rchg = s.rchg := rfl
@[simp] theorem writePph_drops (p : PulsePhase) (s : State) : (writePph p s).drops = s.drops := rfl
@[simp] theorem writePph_rstN (p : PulsePhase) (s : State) : (writePph p s).rstN = s.rstN := rfl
@[simp] theorem writePph_rstEv (p : PulsePhase) (s : State) : (writePph p s).rstEv = s.rstEv := rfl
@[simp] theorem writePph_rstCore (p : PulsePhase) (s : State) : (writePph p s).rstCore = s.rstCore := rfl
@[simp] theorem writePph_btnN (p : PulsePhase) (s : State) : (writePph p s).btnN = s.btnN := rfl
@[simp] theorem writePph_stim (p : PulsePhase) (s : State) : (writePph p s).stim = s.stim := rfl
@[simp] theorem writePph_now (p : PulsePhase) (s : State) : (writePph p s).now = s.now := rfl
@[simp] theorem writePph_epoch (p : PulsePhase) (s : State) : (writePph p s).epoch = s.epoch := rfl

/-! ### advanceCommit -/

@[simp] theorem advanceCommit_cfg (s : State) : (advanceCommit s).cfg = s.cfg := rfl
@[simp] theorem advanceCommit_ctrl (s : State) : (advanceCommit s).ctrl = s.ctrl := rfl
@[simp] theorem advanceCommit_wph (s : State) : (advanceCommit s).wph = s.wph := rfl
@[simp] theorem advanceCommit_pph (s : State) : (advanceCommit s).pph = s.pph := rfl
@[simp] theorem advanceCommit_dreg (s : State) : (advanceCommit s).dreg = s.dreg := rfl
@[simp] theorem advanceCommit_s1v (s : State) : (advanceCommit s).s1v = s.s1v := rfl
@[simp] theorem advanceCommit_s2v (s : State) : (advanceCommit s).s2v = s.s1v := rfl
@[simp] theorem advanceCommit_rptr (s : State) : (advanceCommit s).rptr = s.rptr := rfl
@[simp] theorem advanceCommit_wsync (s : State) : (advanceCommit s).wsync = s.wsync := rfl
@[simp] theorem advanceCommit_wptr (s : State) : (advanceCommit s).wptr = s.wptr := rfl
@[simp] theorem advanceCommit_rsync (s : State) : (advanceCommit s).rsync = s.rsync := rfl
@[simp] theorem advanceCommit_bsync (s : State) : (advanceCommit s).bsync = s.bsync := rfl
@[simp] theorem advanceCommit_bprev (s : State) : (advanceCommit s).bprev = s.bprev := rfl
@[simp] theorem advanceCommit_pend (s : State) : (advanceCommit s).pend = s.pend := rfl
@[simp] theorem advanceCommit_mem (s : State) : (advanceCommit s).mem = s.mem := rfl
@[simp] theorem advanceCommit_wchg (s : State) : (advanceCommit s).wchg = s.wchg := rfl
@[simp] theorem advanceCommit_rchg (s : State) : (advanceCommit s).rchg = s.rchg := rfl
@[simp] theorem advanceCommit_drops (s : State) : (advanceCommit s).drops = s.drops := rfl
@[simp] theorem advanceCommit_rstN (s : State) : (advanceCommit s).rstN = s.rstN := rfl
@[simp] theorem advanceCommit_rstEv (s : State) : (advanceCommit s).rstEv = s.rstEv := rfl
@[simp] theorem advanceCommit_rstCore (s : State) : (advanceCommit s).rstCore = s.rstCore := rfl
@[simp] theorem advanceCommit_btnN (s : State) : (advanceCommit s).btnN = s.btnN := rfl
@[simp] theorem advanceCommit_stim (s : State) : (advanceCommit s).stim = s.stim := rfl
@[simp] theorem advanceCommit_now (s : State) : (advanceCommit s).now = s.now := rfl
@[simp] theorem advanceCommit_epoch (s : State) : (advanceCommit s).epoch = s.epoch := rfl

/-! ### consume -/

@[simp] theorem consume_cfg (s : State) : (consume s).cfg = s.cfg := rfl
@[simp] theorem consume_ctrl (s : State) : (consume s).ctrl = s.ctrl := rfl
@[simp] theorem consume_wph (s : State) : (consume s).wph = s.wph := rfl
@[simp] theorem consume_pph (s : State) : (consume s).pph = s.pph := rfl
@[simp] theorem consume_dreg (s : State) : (consume s).dreg = s.dreg := rfl
@[simp] theorem consume_s1v (s : State) : (consume s).s1v = s.s1v := rfl
@[simp] theorem consume_s2v (s : State) : (consume s).s2v = s.s2v := rfl
@[simp] theorem consume_rptr (s : State) : (consume s).rptr = s.rptr + 1 := rfl
@[simp] theorem consume_wsync (s : State) : (consume s).wsync = s.wsync := rfl
@[simp] theorem consume_wptr (s : State) : (consume s).wptr = s.wptr := rfl
@[simp] theorem consume_rsync (s : State) : (consume s).rsync = s.rsync := rfl
@[simp] theorem consume_bsync (s : State) : (consume s).bsync = s.bsync := rfl
@[simp] theorem consume_bprev (s : State) : (consume s).bprev = s.bprev := rfl
@[simp] theorem consume_pend (s : State) : (consume s).pend = s.pend := rfl
@[simp] theorem consume_mem (s : State) : (consume s).mem = s.mem := rfl
@[simp] theorem consume_wchg (s : State) : (consume s).wchg = s.wchg := rfl
@[simp] theorem consume_rchg (s : State) : (consume s).rchg = true := rfl
@[simp] theorem consume_drops (s : State) : (consume s).drops = s.drops := rfl
@[simp] theorem consume_rstN (s : State) : (consume s).rstN = s.rstN := rfl
@[simp] theorem consume_rstEv (s : State) : (consume s).rstEv = s.rstEv := rfl
@[simp] theorem consume_rstCore (s : State) : (consume s).rstCore = s.rstCore := rfl
@[simp] theorem consume_btnN (s : State) : (consume s).btnN = s.btnN := rfl
@[simp] theorem consume_stim (s : State) : (consume s).stim = s.stim := rfl
@[simp] theorem consume_now (s : State) : (consume s).now = s.now := rfl
@[simp] theorem consume_epoch (s : State) : (consume s).epoch = s.epoch := rfl

/-! ### syncWptr -/

@[simp] theorem syncWptr_cfg (d : Draw) (s : State) : (syncWptr d s).cfg = s.cfg := rfl
@[simp] theorem syncWptr_ctrl (d : Draw) (s : State) : (syncWptr d s).ctrl = s.ctrl := rfl
@[simp] theorem syncWptr_wph (d : Draw) (s : State) : (syncWptr d s).wph = s.wph := rfl
@[simp] theorem syncWptr_pph (d : Draw) (s : State) : (syncWptr d s).pph = s.pph := rfl
@[simp] theorem syncWptr_dreg (d : Draw) (s : State) : (syncWptr d s).dreg = s.dreg := rfl
@[simp] theorem syncWptr_s1v (d : Draw) (s : State) : (syncWptr d s).s1v = s.s1v := rfl
@[simp] theorem syncWptr_s2v (d : Draw) (s : State) : (syncWptr d s).s2v = s.s2v := rfl
@[simp] theorem syncWptr_rptr (d : Draw) (s : State) : (syncWptr d s).rptr = s.rptr := rfl
@[simp] theorem syncWptr_wsync (d : Draw) (s : State) : (syncWptr d s).wsync = shiftIn s.wsync (sampleWptr d s) := rfl
@[simp] theorem syncWptr_wptr (d : Draw) (s : State) : (syncWptr d s).wptr = s.wptr := rfl
@[simp] theorem syncWptr_rsync (d : Draw) (s : State) : (syncWptr d s).rsync = s.rsync := rfl
@[simp] theorem syncWptr_bsync (d : Draw) (s : State) : (syncWptr d s).bsync = s.bsync := rfl
@[simp] theorem syncWptr_bprev (d : Draw) (s : State) : (syncWptr d s).bprev = s.bprev := rfl
@[simp] theorem syncWptr_pend (d : Draw) (s : State) : (syncWptr d s).pend = s.pend := rfl
@[simp] theorem syncWptr_mem (d : Draw) (s : State) : (syncWptr d s).mem = s.mem := rfl
@[simp] theorem syncWptr_wchg (d : Draw) (s : State) : (syncWptr d s).wchg = false := rfl
@[simp] theorem syncWptr_rchg (d : Draw) (s : State) : (syncWptr d s).rchg = s.rchg := rfl
@[simp] theorem syncWptr_drops (d : Draw) (s : State) : (syncWptr d s).drops = s.drops := rfl
@[simp] theorem syncWptr_rstN (d : Draw) (s : State) : (syncWptr d s).rstN = s.rstN := rfl
@[simp] theorem syncWptr_rstEv (d : Draw) (s : State) : (syncWptr d s).rstEv = s.rstEv := rfl
@[simp] theorem syncWptr_rstCore (d : Draw) (s : State) : (syncWptr d s).rstCore = s.rstCore := rfl
@[simp] theorem syncWptr_btnN (d : Draw) (s : State) : (syncWptr d s).btnN = s.btnN := rfl
@[simp] theorem syncWptr_stim (d : Draw) (s : State) : (syncWptr d s).stim = s.stim := rfl
@[simp] theorem syncWptr_now (d : Draw) (s : State) : (syncWptr d s).now = s.now := rfl
@[simp] theorem syncWptr_epoch (d : Draw) (s : State) : (syncWptr d s).epoch = s.epoch := rfl

/-! ### syncRptr -/

@[simp] theorem syncRptr_cfg (d : Draw) (s : State) : (syncRptr d s).cfg = s.cfg := rfl
@[simp] theorem syncRptr_ctrl (d : Draw) (s : State) : (syncRptr d s).ctrl = s.ctrl := rfl
@[simp] theorem syncRptr_wph (d : Draw) (s : State) : (syncRptr d s).wph = s.wph := rfl
@[simp] theorem syncRptr_pph (d : Draw) (s : State) : (syncRptr d s).pph = s.pph := rfl
@[simp] theorem syncRptr_dreg (d : Draw) (s : State) : (syncRptr d s).dreg = s.dreg := rfl
@[simp] theorem syncRptr_s1v (d : Draw) (s : State) : (syncRptr d s).s1v = s.s1v := rfl
@[simp] theorem syncRptr_s2v (d : Draw) (s : State) : (syncRptr d s).s2v = s.s2v := rfl
@[simp] theorem syncRptr_rptr (d : Draw) (s : State) : (syncRptr d s).rptr = s.rptr := rfl
@[simp] theorem syncRptr_wsync (d : Draw) (s : State) : (syncRptr d s).wsync = s.wsync := rfl
@[simp] theorem syncRptr_wptr (d : Draw) (s : State) : (syncRptr d s).wptr = s.wptr := rfl
@[simp] theorem syncRptr_rsync (d : Draw) (s : State) : (syncRptr d s).rsync = shiftIn s.rsync (sampleRptr d s) := rfl
@[simp] theorem syncRptr_bsync (d : Draw) (s : State) : (syncRptr d s).bsync = s.bsync := rfl
@[simp] theorem syncRptr_bprev (d : Draw) (s : State) : (syncRptr d s).bprev = s.bprev := rfl
@[simp] theorem syncRptr_pend (d : Draw) (s : State) : (syncRptr d s).pend = s.pend := rfl
@[simp] theorem syncRptr_mem (d : Draw) (s : State) : (syncRptr d s).mem = s.mem := rfl
@[simp] theorem syncRptr_wchg (d : Draw) (s : State) : (syncRptr d s).wchg = s.wchg := rfl
@[simp] theorem syncRptr_rchg (d : Draw) (s : State) : (syncRptr d s).rchg = false := rfl
@[simp] theorem syncRptr_drops (d : Draw) (s : State) : (syncRptr d s).drops = s.drops := rfl
@[simp] theorem syncRptr_rstN (d : Draw) (s : State) : (syncRptr d s).rstN = s.rstN := rfl
@[simp] theorem syncRptr_rstEv (d : Draw) (s : State) : (syncRptr d s).rstEv = s.rstEv := rfl
@[simp] theorem syncRptr_rstCore (d : Draw) (s : State) : (syncRptr d s).rstCore = s.rstCore := rfl
@[simp] theorem syncRptr_btnN (d : Draw) (s : State) : (syncRptr d s).btnN = s.btnN := rfl
@[simp] theorem syncRptr_stim (d : Draw) (s : State) : (syncRptr d s).stim = s.stim := rfl
@[simp] theorem syncRptr_now (d : Draw) (s : State) : (syncRptr d s).now = s.now := rfl
@[simp] theorem syncRptr_epoch (d : Draw) (s : State) : (syncRptr d s).epoch = s.epoch := rfl

/-! ### enqueue -/

@[simp] theorem enqueue_cfg (b : Button) (s : State) : (enqueue b s).cfg = s.cfg := rfl
@[simp] theorem enqueue_ctrl (b : Button) (s : State) : (enqueue b s).ctrl = s.ctrl := rfl
@[simp] theorem enqueue_wph (b : Button) (s : State) : (enqueue b s).wph = s.wph := rfl
@[simp] theorem enqueue_pph (b : Button) (s : State) : (enqueue b s).pph = s.pph := rfl
@[simp] theorem enqueue_dreg (b : Button) (s : State) : (enqueue b s).dreg = s.dreg := rfl
@[simp] theorem enqueue_s1v (b : Button) (s : State) : (enqueue b s).s1v = s.s1v := rfl
@[simp] theorem enqueue_s2v (b : Button) (s : State) : (enqueue b s).s2v = s.s2v := rfl
@[simp] theorem enqueue_rptr (b : Button) (s : State) : (enqueue b s).rptr = s.rptr := rfl
@[simp] theorem enqueue_wsync (b : Button) (s : State) : (enqueue b s).wsync = s.wsync := rfl
@[simp] theorem enqueue_wptr (b : Button) (s : State) : (enqueue b s).wptr = s.wptr + 1 := rfl
@[simp] theorem enqueue_rsync (b : Button) (s : State) : (enqueue b s).rsync = s.rsync := rfl
@[simp] theorem enqueue_bsync (b : Button) (s : State) : (enqueue b s).bsync = s.bsync := rfl
@[simp] theorem enqueue_bprev (b : Button) (s : State) : (enqueue b s).bprev = s.bprev := rfl
@[simp] theorem enqueue_pend (b : Button) (s : State) : (enqueue b s).pend = s.pend := rfl
@[simp] theorem enqueue_mem (b : Button) (s : State) : (enqueue b s).mem = slotWrite s.mem s.wptr.toNat (tokenOf b) := rfl
@[simp] theorem enqueue_wchg (b : Button) (s : State) : (enqueue b s).wchg = true := rfl
@[simp] theorem enqueue_rchg (b : Button) (s : State) : (enqueue b s).rchg = s.rchg := rfl
@[simp] theorem enqueue_drops (b : Button) (s : State) : (enqueue b s).drops = s.drops := rfl
@[simp] theorem enqueue_rstN (b : Button) (s : State) : (enqueue b s).rstN = s.rstN := rfl
@[simp] theorem enqueue_rstEv (b : Button) (s : State) : (enqueue b s).rstEv = s.rstEv := rfl
@[simp] theorem enqueue_rstCore (b : Button) (s : State) : (enqueue b s).rstCore = s.rstCore := rfl
@[simp] theorem enqueue_btnN (b : Button) (s : State) : (enqueue b s).btnN = s.btnN := rfl
@[simp] theorem enqueue_stim (b : Button) (s : State) : (enqueue b s).stim = s.stim := rfl
@[simp] theorem enqueue_now (b : Button) (s : State) : (enqueue b s).now = s.now := rfl
@[simp] theorem enqueue_epoch (b : Button) (s : State) : (enqueue b s).epoch = s.epoch := rfl

/-! ### captureButtons -/

@[simp] theorem captureButtons_cfg (r s : State) : (captureButtons r s).cfg = s.cfg := rfl
@[simp] theorem captureButtons_ctrl (r s : State) : (captureButtons r s).ctrl = s.ctrl := rfl
@[simp] theorem captureButtons_wph (r s : State) : (captureButtons r s).wph = s.wph := rfl
@[simp] theorem captureButtons_pph (r s : State) : (captureButtons r s).pph = s.pph := rfl
@[simp] theorem captureButtons_dreg (r s : State) : (captureButtons r s).dreg = s.dreg := rfl
@[simp] theorem captureButtons_s1v (r s : State) : (captureButtons r s).s1v = s.s1v := rfl
@[simp] theorem captureButtons_s2v (r s : State) : (captureButtons r s).s2v = s.s2v := rfl
@[simp] theorem captureButtons_rptr (r s : State) : (captureButtons r s).rptr = s.rptr := rfl
@[simp] theorem captureButtons_wsync (r s : State) : (captureButtons r s).wsync = s.wsync := rfl
@[simp] theorem captureButtons_wptr (r s : State) : (captureButtons r s).wptr = s.wptr := rfl
@[simp] theorem captureButtons_rsync (r s : State) : (captureButtons r s).rsync = s.rsync := rfl
@[simp] theorem captureButtons_bsync (r s : State) : (captureButtons r s).bsync = forButtons (nextBsync r) := rfl
@[simp] theorem captureButtons_bprev (r s : State) : (captureButtons r s).bprev = forButtons (nextBprev r) := rfl
@[simp] theorem captureButtons_pend (r s : State) : (captureButtons r s).pend = forButtons (nextPend r) := rfl
@[simp] theorem captureButtons_mem (r s : State) : (captureButtons r s).mem = s.mem := rfl
@[simp] theorem captureButtons_wchg (r s : State) : (captureButtons r s).wchg = s.wchg := rfl
@[simp] theorem captureButtons_rchg (r s : State) : (captureButtons r s).rchg = s.rchg := rfl
@[simp] theorem captureButtons_drops (r s : State) : (captureButtons r s).drops = r.drops + dropsNow r := rfl
@[simp] theorem captureButtons_rstN (r s : State) : (captureButtons r s).rstN = s.rstN := rfl
@[simp] theorem captureButtons_rstEv (r s : State) : (captureButtons r s).rstEv = s.rstEv := rfl
@[simp] theorem captureButtons_rstCore (r s : State) : (captureButtons r s).rstCore = s.rstCore := rfl
@[simp] theorem captureButtons_btnN (r s : State) : (captureButtons r s).btnN = s.btnN := rfl
@[simp] theorem captureButtons_stim (r s : State) : (captureButtons r s).stim = s.stim := rfl
@[simp] theorem captureButtons_now (r s : State) : (captureButtons r s).now = s.now := rfl
@[simp] theorem captureButtons_epoch (r s : State) : (captureButtons r s).epoch = s.epoch := rfl

/-! ### clockCore -/

@[simp] theorem clockCore_cfg (d : Draw) (s : State) : (clockCore d s).cfg = s.cfg := rfl
@[simp] theorem clockCore_ctrl (d : Draw) (s : State) : (clockCore d s).ctrl = s.ctrl := rfl
@[simp] theorem clockCore_wph (d : Draw) (s : State) : (clockCore d s).wph = s.wph := rfl
@[simp] theorem clockCore_pph (d : Draw) (s : State) : (clockCore d s).pph = s.pph := rfl
@[simp] theorem clockCore_dreg (d : Draw) (s : State) : (clockCore d s).dreg = s.dreg := rfl
@[simp] theorem clockCore_s1v (d : Draw) (s : State) : (clockCore d s).s1v = s.s1v := rfl
@[simp] theorem clockCore_s2v (d : Draw) (s : State) : (clockCore d s).s2v = s.s1v := rfl
@[simp] theorem clockCore_rptr (d : Draw) (s : State) : (clockCore d s).rptr = s.rptr := rfl
@[simp] theorem clockCore_wsync (d : Draw) (s : State) : (clockCore d s).wsync = shiftIn s.wsync (sampleWptr d s) := rfl
@[simp] theorem clockCore_wptr (d : Draw) (s : State) : (clockCore d s).wptr = s.wptr := rfl
@[simp] theorem clockCore_rsync (d : Draw) (s : State) : (clockCore d s).rsync = s.rsync := rfl
@[simp] theorem clockCore_bsync (d : Draw) (s : State) : (clockCore d s).bsync = s.bsync := rfl
@[simp] theorem clockCore_bprev (d : Draw) (s : State) : (clockCore d s).bprev = s.bprev := rfl
@[simp] theorem clockCore_pend (d : Draw) (s : State) : (clockCore d s).pend = s.pend := rfl
@[simp] theorem clockCore_mem (d : Draw) (s : State) : (clockCore d s).mem = s.mem := rfl
@[simp] theorem clockCore_wchg (d : Draw) (s : State) : (clockCore d s).wchg = false := rfl
@[simp] theorem clockCore_rchg (d : Draw) (s : State) : (clockCore d s).rchg = s.rchg := rfl
@[simp] theorem clockCore_drops (d : Draw) (s : State) : (clockCore d s).drops = s.drops := rfl
@[simp] theorem clockCore_rstN (d : Draw) (s : State) : (clockCore d s).rstN = s.rstN := rfl
@[simp] theorem clockCore_rstEv (d : Draw) (s : State) : (clockCore d s).rstEv = s.rstEv := rfl
@[simp] theorem clockCore_rstCore (d : Draw) (s : State) : (clockCore d s).rstCore = s.rstCore := rfl
@[simp] theorem clockCore_btnN (d : Draw) (s : State) : (clockCore d s).btnN = s.btnN := rfl
@[simp] theorem clockCore_stim (d : Draw) (s : State) : (clockCore d s).stim = s.stim := rfl
@[simp] theorem clockCore_now (d : Draw) (s : State) : (clockCore d s).now = s.now := rfl
@[simp] theorem clockCore_epoch (d : Draw) (s : State) : (clockCore d s).epoch = s.epoch := rfl

/-! ### capture -/

@[simp] theorem capture_cfg (d : Option Nat) (s : State) : (capture d s).cfg = s.cfg := by cases d <;> rfl
@[simp] theorem capture_ctrl (d : Option Nat) (s : State) : (capture d s).ctrl = s.ctrl := by cases d <;> rfl
@[simp] theorem capture_wph (d : Option Nat) (s : State) : (capture d s).wph = s.wph := by cases d <;> rfl
@[simp] theorem capture_pph (d : Option Nat) (s : State) : (capture d s).pph = s.pph := by cases d <;> rfl
@[simp] theorem capture_some_dreg (v : Nat) (s : State) : (capture (some v) s).dreg = v := rfl
@[simp] theorem capture_none_dreg (s : State) : (capture none s).dreg = s.dreg := rfl
@[simp] theorem capture_s1v (d : Option Nat) (s : State) : (capture d s).s1v = d.isSome := by cases d <;> rfl
@[simp] theorem capture_s2v (d : Option Nat) (s : State) : (capture d s).s2v = s.s2v := by cases d <;> rfl
@[simp] theorem capture_rptr (d : Option Nat) (s : State) : (capture d s).rptr = s.rptr := by cases d <;> rfl
@[simp] theorem capture_wsync (d : Option Nat) (s : State) : (capture d s).wsync = s.wsync := by cases d <;> rfl
@[simp] theorem capture_wptr (d : Option Nat) (s : State) : (capture d s).wptr = s.wptr := by cases d <;> rfl
@[simp] theorem capture_rsync (d : Option Nat) (s : State) : (capture d s).rsync = s.rsync := by cases d <;> rfl
@[simp] theorem capture_bsync (d : Option Nat) (s : State) : (capture d s).bsync = s.bsync := by cases d <;> rfl
@[simp] theorem capture_bprev (d : Option Nat) (s : State) : (capture d s).bprev = s.bprev := by cases d <;> rfl
@[simp] theorem capture_pend (d : Option Nat) (s : State) : (capture d s).pend = s.pend := by cases d <;> rfl
@[simp] theorem capture_mem (d : Option Nat) (s : State) : (capture d s).mem = s.mem := by cases d <;> rfl
@[simp] theorem capture_wchg (d : Option Nat) (s : State) : (capture d s).wchg = s.wchg := by cases d <;> rfl
@[simp] theorem capture_rchg (d : Option Nat) (s : State) : (capture d s).rchg = s.rchg := by cases d <;> rfl
@[simp] theorem capture_drops (d : Option Nat) (s : State) : (capture d s).drops = s.drops := by cases d <;> rfl
@[simp] theorem capture_rstN (d : Option Nat) (s : State) : (capture d s).rstN = s.rstN := by cases d <;> rfl
@[simp] theorem capture_rstEv (d : Option Nat) (s : State) : (capture d s).rstEv = s.rstEv := by cases d <;> rfl
@[simp] theorem capture_rstCore (d : Option Nat) (s : State) : (capture d s).rstCore = s.rstCore := by cases d <;> rfl
@[simp] theorem capture_btnN (d : Option Nat) (s : State) : (capture d s).btnN = s.btnN := by cases d <;> rfl
@[simp] theorem capture_stim (d : Option Nat) (s : State) : (capture d s).stim = s.stim := by cases d <;> rfl
@[simp] theorem capture_now (d : Option Nat) (s : State) : (capture d s).now = s.now := by cases d <;> rfl
@[simp] theorem capture_epoch (d : Option Nat) (s : State) : (capture d s).epoch = s.epoch := by cases d <;> rfl

end Sys2Proof.Machine
end

