-- ==== Sys2Proof/Laws/Ops.lean ====
section
/-!
SUPPORT. What the shared operations do, said once: the FIFO storage (read after write, canonical form), the values per
button, CTRL and its fields, and the outcomes of the parts of an edge.
-/

namespace Sys2Proof.Machine

/-! ### FIFO storage -/

theorem slotWritten_slotWrite_same (m : Memory) (a : Nat) (t : Token) :
    slotWritten (slotWrite m a t) a = some t := by
  induction m with
  | nil => simp [slotWrite, slotWritten]
  | cons e rest ih =>
    obtain ⟨b, u⟩ := e
    unfold slotWrite
    split
    · simp [slotWritten]
    · split
      · simp [slotWritten]
      · simp [slotWritten, *]

theorem slotWritten_slotWrite_other (m : Memory) (a b : Nat) (t : Token) (h : b ≠ a) :
    slotWritten (slotWrite m a t) b = slotWritten m b := by
  induction m with
  | nil => simp [slotWrite, slotWritten, h]
  | cons e rest ih =>
    obtain ⟨c, u⟩ := e
    unfold slotWrite
    split
    · simp [slotWritten, h]
    · split
      · rename_i hac
        subst hac
        simp [slotWritten, h]
      · simp [slotWritten, ih]

/-- The slots of a written storage are those it had and the written one. -/
theorem mem_slots_slotWrite (m : Memory) (a x : Nat) (t : Token) :
    x ∈ (slotWrite m a t).map Prod.fst ↔ x = a ∨ x ∈ m.map Prod.fst := by
  induction m with
  | nil => simp [slotWrite]
  | cons e rest ih =>
    obtain ⟨b, u⟩ := e
    unfold slotWrite
    split
    · simp
    · split
      · rename_i hab
        subst hab
        simp
      · rw [List.map_cons, List.mem_cons, ih, List.map_cons, List.mem_cons]
        tauto

/-- Writing keeps the slots strictly rising. -/
theorem slotWrite_rising (m : Memory) (a : Nat) (t : Token) (h : (m.map Prod.fst).Pairwise (· < ·)) :
    ((slotWrite m a t).map Prod.fst).Pairwise (· < ·) := by
  induction m with
  | nil => simp [slotWrite]
  | cons e rest ih =>
    obtain ⟨b, u⟩ := e
    rw [List.map_cons, List.pairwise_cons] at h
    unfold slotWrite
    split
    · rename_i hab
      rw [List.map_cons, List.map_cons, List.pairwise_cons, List.pairwise_cons]
      refine ⟨fun x hx => ?_, h⟩
      rcases List.mem_cons.1 hx with rfl | hx
      · exact hab
      · exact hab.trans (h.1 x hx)
    · split
      · rename_i hab
        subst hab
        rw [List.map_cons, List.pairwise_cons]
        exact h
      · rename_i hlt hne
        rw [List.map_cons, List.pairwise_cons]
        refine ⟨fun x hx => ?_, ih h.2⟩
        rcases (mem_slots_slotWrite rest a x t).1 hx with rfl | hx
        · exact lt_of_le_of_ne (not_lt.1 hlt) (Ne.symm hne)
        · exact h.1 x hx

/-- Every write of MEM keeps the canonical form; the other operations on it only read. -/
theorem slotWrite_keeps_wf (m : Memory) (a : Nat) (t : Token) (h : Memory.wf m) (ha : a < 16) :
    Memory.wf (slotWrite m a t) :=
  ⟨slotWrite_rising m a t h.1, fun x hx => by
    rcases (mem_slots_slotWrite m a x t).1 hx with rfl | hx
    · exact ha
    · exact h.2 x hx⟩

/-- The storage right after reset is canonical. -/
theorem reset_mem_wf : Memory.wf State.reset.mem := by decide

/-- A read depends on the storage and the number of resets alone. -/
theorem memRead_congr {s t : State} (hm : t.mem = s.mem) (he : t.epoch = s.epoch) (p : Ptr) :
    memRead t p = memRead s p := by simp [memRead, hm, he]

/-- A read after ENQ: the written slot holds the button's token, every other slot reads as before. -/
theorem memRead_enqueue (b : Button) (s : State) (p : Ptr) :
    memRead (enqueue b s) p = if p = s.wptr then tokenOf b else memRead s p := by
  unfold memRead
  split
  · rename_i h
    subst h
    simp [slotWritten_slotWrite_same]
  · rename_i h
    have hne : p.toNat ≠ s.wptr.toNat := fun hp => h (BitVec.eq_of_toNat_eq hp)
    simp [slotWritten_slotWrite_other _ _ _ _ hne]

@[simp] theorem memRead_captureButtons (r s : State) (p : Ptr) : memRead (captureButtons r s) p = memRead s p := rfl
@[simp] theorem memRead_syncRptr (d : Draw) (s : State) (p : Ptr) : memRead (syncRptr d s) p = memRead s p := rfl
@[simp] theorem memRead_clockCore (d : Draw) (s : State) (p : Ptr) : memRead (clockCore d s) p = memRead s p := rfl
@[simp] theorem memRead_consume (s : State) (p : Ptr) : memRead (consume s) p = memRead s p := rfl
@[simp] theorem memRead_writeCtrl (v : Ctrl) (s : State) (p : Ptr) : memRead (writeCtrl v s) p = memRead s p := rfl
@[simp] theorem memRead_capture (d : Option Nat) (s : State) (p : Ptr) : memRead (capture d s) p = memRead s p := by
  cases d <;> rfl

/-! ### Values per button -/

@[simp] theorem perButton_forButtons {α : Type} (f : Button → α) (b : Button) : perButton (forButtons f) b = f b := by
  cases b <;> rfl

@[simp] theorem forButtons_perButton {α : Type} (p : PerButton α) : forButtons (perButton p) = p := rfl

@[simp] theorem perButton_setButton {α : Type} (p : PerButton α) (b b' : Button) (v : α) :
    perButton (setButton p b v) b' = if b' = b then v else perButton p b' := by
  simp [setButton]

@[simp] theorem shiftIn_stage0 {α : Type} (c : Sync α) (v : α) : (shiftIn c v).stage0 = v := rfl
@[simp] theorem shiftIn_stage1 {α : Type} (c : Sync α) (v : α) : (shiftIn c v).stage1 = c.stage0 := rfl

/-! ### CTRL -/

@[simp] theorem hardwirePwr_idem (c : Config) (v : Ctrl) : hardwirePwr c (hardwirePwr c v) = hardwirePwr c v := by
  unfold hardwirePwr
  split <;> simp [BitVec.or_assoc]

@[simp] theorem readCtrl_writeCtrl (v : Ctrl) (s : State) : readCtrl (writeCtrl v s) = hardwirePwr s.cfg v := by
  simp [readCtrl]

/-- Reading CTRL depends on the build and the register alone. -/
theorem readCtrl_congr {s t : State} (hc : t.cfg = s.cfg) (hr : t.ctrl = s.ctrl) : readCtrl t = readCtrl s := by
  simp [readCtrl, hc, hr]

theorem ctrlPwr_pack (p : BitVec 1) (m s : BitVec 2) : ctrlPwr (packCtrl p m s) = p := by
  revert p m s; decide

theorem ctrlMode_pack (p : BitVec 1) (m s : BitVec 2) : ctrlMode (packCtrl p m s) = m := by
  revert p m s; decide

theorem ctrlStr_pack (p : BitVec 1) (m s : BitVec 2) : ctrlStr (packCtrl p m s) = s := by
  revert p m s; decide

/-- CTRL is its three fields (R83). -/
theorem pack_fields (c : Ctrl) : packCtrl (ctrlPwr c) (ctrlMode c) (ctrlStr c) = c := by
  revert c; decide

/-! ### Outcomes of the parts of an edge -/

@[simp] theorem andThen_next (s : State) (f : State → Host.Outcome State Fault Refusal) :
    andThen (.next s) f = f s := rfl

/-- A second part answers a next state only from a next state of the first. -/
theorem andThen_eq_next {o : Host.Outcome State Fault Refusal} {f : State → Host.Outcome State Fault Refusal}
    {t : State} (h : andThen o f = .next t) : ∃ s, o = .next s ∧ f s = .next t := by
  cases o with
  | next s => exact ⟨s, rfl, h⟩
  | fault r => cases h
  | refused r => cases h

end Sys2Proof.Machine
end

