-- ==== Sys2Proof/Laws/Edges.lean ====
section
/-!
SUPPORT. What an operation and an edge can do, said once each: the operations of a format answer a next state that
differs in the registers of that format, and so do the parts of a clk_core edge.
-/

namespace Sys2Proof.Machine

/-! ### Tokens -/

/-- On a build without power CTRL reads with PWR set, whatever is stored (R25). -/
theorem hardwirePwr_readCtrl (s : State) : hardwirePwr s.cfg (readCtrl s) = readCtrl s := by simp [readCtrl]

/-- The transitions on a value that reads as CTRL leave PWR hardwired (R25, R131, R133). -/
theorem hardwirePwr_transition (c : Config) (v : Ctrl) (h : hardwirePwr c v = v) :
    hardwirePwr c (advanceMode v) = advanceMode v ∧ hardwirePwr c (advanceStrength v) = advanceStrength v := by
  unfold hardwirePwr at *
  generalize c.hasPower = p at *
  revert h v p
  decide

/-- CTRL as stored after a token, from the build and the stored value. -/
def storedCtrl (c : Config) (v : Ctrl) (tok : Token) : Ctrl :=
  if tok = 0b00#2 then hardwirePwr c (advanceMode (hardwirePwr c v))
  else if tok = 0b01#2 then hardwirePwr c (advanceStrength (hardwirePwr c v))
  else if tok = 0b10#2 then (if c.hasPower then hardwirePwr c (togglePower (hardwirePwr c v)) else v)
  else v

/-- A token writes CTRL and nothing else (R130). -/
theorem exec_token (tok : Token) (s : State) :
    exec (decodeEvt2 tok) s = .next { s with ctrl := storedCtrl s.cfg s.ctrl tok } := by
  unfold decodeEvt2 storedCtrl
  repeat' split
  all_goals first | rfl | simp_all [exec, execPower, writeCtrl, readCtrl]

/-! ### Ticks -/

/-- WPH after a tick with a selection (R150, R155). -/
def tickWph (sel : TickSel) (w : WavePhase) : WavePhase := if sel = 0b110#3 then nextWph w else w

/-- PPH after a tick with a selection (R150, R153). -/
def tickPph (sel : TickSel) (p : PulsePhase) : PulsePhase := if sel = 0b101#3 then nextPph p else p

/-- The duty a tick with a selection emits, none in the undefined mode (R150). -/
def tickDuty (sel : TickSel) (c : Config) (v : Ctrl) (w : WavePhase) (p : PulsePhase) : Option Nat :=
  if sel.extractLsb' 2 1 = 0b0#1 then some 0
  else if sel = 0b100#3 then some (scale c (strengthOf v))
  else if sel = 0b101#3 then some (scale c (pulseFactor (nextPph p).toNat))
  else if sel = 0b110#3 then some (sineDuty c (nextWph w))
  else none

/-- A tick writes the phases, DREG and S1V, and nothing else (R150, R180). -/
theorem exec_tick (sel : TickSel) (s : State) :
    exec (decodeTicksel3 sel) s =
      .next (capture (tickDuty sel s.cfg (readCtrl s) s.wph s.pph)
        { s with wph := tickWph sel s.wph, pph := tickPph sel s.pph }) := by
  have h0 : sel.extractLsb' 2 1 = 0b0#1 → sel ≠ 0b110#3 ∧ sel ≠ 0b101#3 := by revert sel; decide
  unfold decodeTicksel3 tickDuty tickWph tickPph
  by_cases h : sel.extractLsb' 2 1 = 0b0#1
  · simp only [h, if_true, h0 h, if_false]
    rfl
  · simp only [h, if_false]
    by_cases h1 : sel = 0b100#3
    · subst h1
      rfl
    · by_cases h2 : sel = 0b101#3
      · subst h2
        rfl
      · by_cases h3 : sel = 0b110#3
        · subst h3
          rfl
        · simp only [h1, h2, h3, if_false]
          rfl

/-! ### An edge in reset -/

/-- A clk_ev edge in reset writes the domain's reset synchroniser and RCHG, both only while rst_n is high. -/
theorem evResetEdge_eq (s : State) :
    evResetEdge s =
      { s with rstEv := if s.rstN then shiftIn s.rstEv true else s.rstEv, rchg := !s.rstN && s.rchg } := by
  unfold evResetEdge
  split
  · rename_i high
    simp [high]
  · rename_i low
    rw [show (!s.rstN && s.rchg) = s.rchg by simp [low]]

/-- A clk_core edge in reset writes the domain's reset synchroniser and WCHG, both only while rst_n is high. -/
theorem coreResetEdge_eq (s : State) :
    coreResetEdge s =
      { s with rstCore := if s.rstN then shiftIn s.rstCore true else s.rstCore, wchg := !s.rstN && s.wchg } := by
  unfold coreResetEdge
  split
  · rename_i high
    simp [high]
  · rename_i low
    rw [show (!s.rstN && s.wchg) = s.wchg by simp [low]]

/-! ### A clk_core edge -/

/-- The duty an edge emits: a tick's, none without one. -/
def edgeDuty (tick : Bool) (s : State) : Option Nat :=
  if tick then tickDuty (tickSelOf (readCtrl s)) s.cfg (readCtrl s) s.wph s.pph else none

/-- The state after a clk_core edge out of reset, all of it from the state before. -/
def coreNext (tick : Bool) (draw : Draw) (s : State) : State :=
  { s with
    ctrl := ((fetchToken s).map (storedCtrl s.cfg s.ctrl)).getD s.ctrl
    wph := if tick then tickWph (tickSelOf (readCtrl s)) s.wph else s.wph
    pph := if tick then tickPph (tickSelOf (readCtrl s)) s.pph else s.pph
    dreg := (edgeDuty tick s).getD s.dreg
    s1v := (edgeDuty tick s).isSome
    s2v := s.s1v
    rptr := if (fetchToken s).isSome then s.rptr + 1 else s.rptr
    rchg := (fetchToken s).isSome || s.rchg
    wsync := shiftIn s.wsync (sampleWptr draw s)
    wchg := false }

/-- A clk_core edge out of reset goes on to `coreNext`. -/
theorem coreStep_eq (tick : Bool) (draw : Draw) (s : State) : coreStep tick draw s = .next (coreNext tick draw s) := by
  unfold coreStep coreNext edgeDuty
  cases tick with
  | false =>
    cases hf : fetchToken s with
    | none => rfl
    | some tok => exact exec_token tok _
  | true =>
    rw [fetchTick, if_pos rfl, runTick, exec_tick, andThen_next]
    have hr : readCtrl (clockCore draw s) = readCtrl s := rfl
    have hd : tickDuty (tickSelOf (readCtrl s)) (clockCore draw s).cfg (readCtrl s) (clockCore draw s).wph
        (clockCore draw s).pph = tickDuty (tickSelOf (readCtrl s)) s.cfg (readCtrl s) s.wph s.pph := rfl
    simp only [hr, hd, if_true]
    generalize tickDuty (tickSelOf (readCtrl s)) s.cfg (readCtrl s) s.wph s.pph = d
    cases hf : fetchToken s with
    | none => cases d <;> rfl
    | some tok => cases d <;> exact exec_token tok _

/-- A clk_core edge always answers a next state. -/
theorem coreEdge_eq (tick : Bool) (draw : Draw) (s : State) :
    coreEdge tick draw s = .next (if coreInReset s then coreResetEdge s else coreNext tick draw s) := by
  unfold coreEdge
  split
  · rfl
  · exact coreStep_eq tick draw s

/-- Every act of the environment has a next state, and `afterAct` is it. -/
theorem runEnv_eq (a : EnvAct) (s : State) : runEnv a s = .next (afterAct a s) := by
  cases a with
  | pin b level => rfl
  | rstN level => rfl
  | evEdge draw => rfl
  | coreEdge tick draw =>
    simp [afterAct, runEnv, coreEdge_eq]

/-- The state after a clk_core edge, in or out of reset. -/
theorem afterAct_coreEdge (tick : Bool) (draw : Draw) (s : State) :
    afterAct (.coreEdge tick draw) s = if coreInReset s then coreResetEdge s else coreNext tick draw s := by
  simp [afterAct, runEnv, coreEdge_eq]

/-- The state after a clk_ev edge. -/
theorem afterAct_evEdge (draw : Draw) (s : State) : afterAct (.evEdge draw) s = evEdge draw s := rfl

/-- The state after the environment drives a pin. -/
theorem afterAct_pin (b : Button) (level : Bool) (s : State) : afterAct (.pin b level) s = drivePin b level s := rfl

/-- The state after the environment drives rst_n. -/
theorem afterAct_rstN (level : Bool) (s : State) : afterAct (.rstN level) s = driveReset level s := rfl

/-- A step that answers a next state ran the next command of a well-formed build, or the next free act. -/
theorem step_eq_next {s t : State} (h : step s = .next t) :
    s.cfg.wf = true ∧
      ((∃ c rest, s.stim = c :: rest ∧ runStim c { s with stim := rest } = .next t) ∨
        (s.stim = [] ∧ t = afterAct (Config.envAct s.now) { s with now := s.now + 1 })) := by
  unfold step at h
  split at h
  · rename_i hw
    refine ⟨hw, ?_⟩
    unfold advance at h
    split at h
    · exact .inl ⟨_, _, ‹_›, h⟩
    · rw [runEnv_eq] at h
      cases h
      exact .inr ⟨‹_›, rfl⟩
  · cases h

/-- A stimulus command has a next state: an act's, the reset state, or the state with one register set. -/
theorem runStim_eq (c : Stim) (s : State) :
    runStim c s = .next (match c with
      | .env a => afterAct a s
      | .reset => scriptReset s
      | .force r v => force r v s) := by
  cases c with
  | env a => exact runEnv_eq a s
  | reset => rfl
  | force r v => rfl

/-- A clk_ev edge out of reset, as one update. -/
theorem evStep_eq (draw : Draw) (s : State) :
    evStep draw s = captureButtons s (runEnqueue (accepted s) (syncRptr draw s)) := rfl

/-- The FIFO write of an edge with nothing accepted changes nothing. -/
@[simp] theorem runEnqueue_none (s : State) : runEnqueue none s = s := rfl

/-- The FIFO write of an edge with an accepted event is ENQ. -/
@[simp] theorem runEnqueue_some (b : Button) (s : State) : runEnqueue (some b) s = enqueue b s := rfl

/-- What ENQ accepts was selected by the arbiter and found the producer view below FIFO_DEPTH (R106). -/
theorem accepted_eq_some {s : State} {b : Button} (h : accepted s = some b) :
    arbiter s = some b ∧ countW s < s.cfg.fifoDepth := by
  unfold accepted at h
  split at h
  · rename_i b' hb'
    split at h
    · cases h
      exact ⟨hb', ‹_›⟩
    · cases h
  · cases h

/-- What the arbiter selects is a present button with a pending edge (R105). -/
theorem arbiter_eq_some {s : State} {b : Button} (h : arbiter s = some b) :
    present s.cfg b = true ∧ perButton s.pend b = true := by
  unfold arbiter at h
  repeat' split at h
  all_goals simp_all [waiting]

end Sys2Proof.Machine
end

