-- ==== Sys2Proof/Laws/PerInstr.lean ====
section
/-!
SUPPORT. Statements for all operations, one lemma per constructor. `EncodeFits`: the encoding of an operation fits the
width of its format, and has its row's fixed bits (spec/opcode_table.json, spec/30_encoding.md R84, R86).
-/

namespace Sys2Proof.Laws

/-- The fixed bits of an operation's row: the mask and the value under it. -/
def fixedBits : Instr → Nat × Nat
  | .mode => (0b11, 0b00)
  | .strength => (0b11, 0b01)
  | .power => (0b11, 0b10)
  | .rsvd => (0b11, 0b11)
  | .tickOff _ => (0b100, 0b000)
  | .tickNormal => (0b111, 0b100)
  | .tickPulsed => (0b111, 0b101)
  | .tickWaveform => (0b111, 0b110)
  | .tickUndef => (0b111, 0b111)

/-- The encoding fits its format, agrees with its row's fixed bits, and the operation is well formed. -/
def EncodeFits.Statement (i : Instr) : Prop :=
  encode i < 2 ^ (formatOf i).width ∧ encode i &&& (fixedBits i).1 = (fixedBits i).2 ∧ i.wf = true

theorem EncodeFits.mode : EncodeFits.Statement .mode := ⟨by decide, rfl, rfl⟩
theorem EncodeFits.strength : EncodeFits.Statement .strength := ⟨by decide, rfl, rfl⟩
theorem EncodeFits.power : EncodeFits.Statement .power := ⟨by decide, rfl, rfl⟩
theorem EncodeFits.rsvd : EncodeFits.Statement .rsvd := ⟨by decide, rfl, rfl⟩
theorem EncodeFits.tickOff (modeBits : BitVec 2) : EncodeFits.Statement (.tickOff modeBits) := by
  have fits : modeBits.toNat < 2 ^ 3 := by omega
  have clear : modeBits.toNat &&& 0b100 = 0 := by revert modeBits; decide
  exact ⟨fits, clear, rfl⟩
theorem EncodeFits.tickNormal : EncodeFits.Statement .tickNormal := ⟨by decide, rfl, rfl⟩
theorem EncodeFits.tickPulsed : EncodeFits.Statement .tickPulsed := ⟨by decide, rfl, rfl⟩
theorem EncodeFits.tickWaveform : EncodeFits.Statement .tickWaveform := ⟨by decide, rfl, rfl⟩
theorem EncodeFits.tickUndef : EncodeFits.Statement .tickUndef := ⟨by decide, rfl, rfl⟩

end Sys2Proof.Laws
end

