-- ==== Sys2Proof/Tests/Slice0.lean ====
section
/-!
SUPPORT. Tests of the model: what the well-formedness checks refuse, the words of the two codes written out bit by bit,
one or two steps per operation with the expected values of spec/95_test_vectors.md, and for every statement with
hypotheses a concrete state that meets them.
-/

namespace Sys2Proof.Tests

open Sys2Proof Sys2Proof.Machine

/-! ### Helpers -/

/-- The state an outcome goes on to, if it goes on. -/
def nextOf (o : Host.Outcome State Fault Refusal) : Option State :=
  match o with
  | .next s => some s
  | .fault _ => none
  | .refused _ => none

/-- The reset state of REF-A with CTRL replaced. -/
def onA (c : Ctrl) : State := { State.reset with ctrl := c }

/-- The reset state of REF-B with CTRL replaced. -/
def onB (c : Ctrl) : State := { State.resetOf Config.refB with ctrl := c }

/-- One command waiting. -/
def facing (c : Stim) (s : State) : State := { s with stim := [c] }

/-- A clk_core edge with a tick, and one without. -/
def tickEdge : Stim := .env (.coreEdge true .current)

/-- A clk_core edge without a tick. -/
def idleEdge : Stim := .env (.coreEdge false .current)

/-- n STRENGTH tokens written and not yet seen by the consumer: MEM[0..n-1] = 01, WPTR = n. -/
def filled (n : Nat) : State :=
  { State.reset with mem := (List.range n).map fun j => (j, 0b01#2), wptr := BitVec.ofNat 4 n }

/-- One token written and in the consumer view. -/
def oneToken (t : Token) : State := { State.reset with mem := [(0, t)], wptr := 1, wsync := ⟨gray 1, gray 1⟩ }

/-! ### Well-formedness: each check refuses an ill-formed build, the reference builds pass (R9, R10) -/

theorem test_refA_wf : Config.refA.wf = true := by decide
theorem test_refB_wf : Config.refB.wf = true := by decide
theorem test_depth_zero_refused : Config.wf { Config.refA with fifoDepth := 0 } = false := by decide
theorem test_depth_sixteen_refused : Config.wf { Config.refA with fifoDepth := 16 } = false := by decide
theorem test_depth_fifteen_accepted : Config.wf { Config.refA with fifoDepth := 15 } = true := by decide
theorem test_scale_three_refused : Config.wf { Config.refA with fullScale := 3 } = false := by decide
theorem test_duty_too_wide_refused : Config.wf { Config.refA with fullScale := 65536 } = false := by decide
theorem test_bias_two_refused : Config.wf { Config.refA with dutyBias := 2 } = false := by decide
theorem test_width_fifteen_refused : Config.wf { Config.refA with dutyW := 15, fullScale := 4 } = false := by decide
theorem test_step_refuses_ill_formed :
    step { State.reset with cfg := { Config.refA with fifoDepth := 16 } } = .refused .illFormedConfig := rfl
theorem test_word_too_wide_evt2 : decodeWord .evt2 0b100 = .error .wordTooWide := rfl
theorem test_word_too_wide_ticksel3 : decodeWord .ticksel3 0b1000 = .error .wordTooWide := rfl
theorem test_table_width_refused : decodeTableWord 16 0 = none := rfl
theorem test_table_word_refused : decodeTableWord 8 0b1000 = none := rfl

/-! ### Decoding: the words of the tables of R84 and R86, bit by bit -/

theorem test_decode_mode : decodeWord .evt2 0b00 = .ok .mode := rfl
theorem test_decode_strength : decodeWord .evt2 0b01 = .ok .strength := rfl
theorem test_decode_power : decodeWord .evt2 0b10 = .ok .power := rfl
theorem test_decode_rsvd : decodeWord .evt2 0b11 = .ok .rsvd := rfl
theorem test_decode_tick_off_normal : decodeWord .ticksel3 0b000 = .ok (.tickOff 0b00#2) := rfl
theorem test_decode_tick_off_pulsed : decodeWord .ticksel3 0b001 = .ok (.tickOff 0b01#2) := rfl
theorem test_decode_tick_off_waveform : decodeWord .ticksel3 0b010 = .ok (.tickOff 0b10#2) := rfl
theorem test_decode_tick_off_undefined : decodeWord .ticksel3 0b011 = .ok (.tickOff 0b11#2) := rfl
theorem test_decode_tick_normal : decodeWord .ticksel3 0b100 = .ok .tickNormal := rfl
theorem test_decode_tick_pulsed : decodeWord .ticksel3 0b101 = .ok .tickPulsed := rfl
theorem test_decode_tick_waveform : decodeWord .ticksel3 0b110 = .ok .tickWaveform := rfl
theorem test_decode_tick_undef : decodeWord .ticksel3 0b111 = .ok .tickUndef := rfl
theorem test_table_word_power : decodeTableWord 8 0b10 = some .power := rfl
theorem test_table_word_tick_pulsed : decodeTableWord 8 0b101 = some .tickPulsed := rfl

/-- V-E7, V-E8: the Gray codes 0000, 0001, 1101, 1111, 1000 and their inverses. -/
theorem test_gray_codes :
    gray 0 = 0b0000#4 ∧ gray 1 = 0b0001#4 ∧ gray 9 = 0b1101#4 ∧ gray 10 = 0b1111#4 ∧ gray 15 = 0b1000#4 ∧
    bin 0b1111#4 = 10 ∧ bin 0b1000#4 = 15 ∧ bin 0b0110#4 = 4 := by decide

/-- V-E3, V-E5: with power off the field 0xx wins over every mode, 0b11 included. -/
theorem test_off_wins_over_undefined_mode :
    decodeTicksel3 (tickSelOf 0b01100#5) = .tickOff 0b11#2 ∧ decodeTicksel3 (tickSelOf 0b11100#5) = .tickUndef := by
  decide

/-- The landmarks and two inner values of the reference sine table (R63, V-T8). -/
theorem test_sine_reference :
    [0, 1, 2, 3, 4, 32, 64, 96, 127].map (fun k => (sineEntry Config.refA (BitVec.ofNat 7 k)).toNat) =
      [32768, 34376, 35980, 37576, 39161, 65535, 32768, 1, 31160] := by decide

/-! ### The operations: the vectors of spec/95_test_vectors.md, one step each -/

/-- V-S1. -/
theorem test_mode_from_reset :
    (nextOf (exec .mode (onA 0b10000#5))).map statusO = some 0b10100#5 := by decide
/-- V-S10. -/
theorem test_mode_from_undefined :
    (nextOf (exec .mode (onA 0b11100#5))).map statusO = some 0b10100#5 := by decide
/-- V-S5. -/
theorem test_strength_wraps :
    (nextOf (exec .strength (onA 0b10011#5))).map statusO = some 0b10000#5 := by decide
/-- The example of R112, through a step: the token 01 at the head of the FIFO is popped and dispatched. -/
theorem test_strength_popped :
    (nextOf (step (facing idleEdge (oneToken 0b01#2)))).map (fun t => (statusO t, t.rptr, t.rchg)) =
      some (0b10001#5, 1#4, true) := by decide
/-- V-S6. -/
theorem test_power_off :
    (nextOf (exec .power (onA 0b10110#5))).map statusO = some 0b00110#5 := by decide
/-- V-S8: on REF-B the token is consumed and CTRL stays. -/
theorem test_power_without_power :
    (nextOf (step (facing idleEdge { oneToken 0b10#2 with cfg := Config.refB }))).map (fun t => (statusO t, t.rptr)) =
      some (0b10000#5, 1#4) := by decide
/-- V-S9. -/
theorem test_rsvd_consumed :
    (nextOf (step (facing idleEdge (oneToken 0b11#2)))).map (fun t => (statusO t, t.rptr)) =
      some (0b10000#5, 1#4) := by decide
/-- The example of R151: CTRL = 0b01011, WPH = 5. -/
theorem test_tick_off :
    (nextOf (step (facing tickEdge { onA 0b01011#5 with wph := 5, dreg := 9 }))).map
      (fun t => (t.dreg, t.wph, t.s1v)) = some (0, 5#7, true) := by decide
/-- V-T1 with MODE = 11 and PPH = 7. -/
theorem test_tick_off_undefined_mode :
    (nextOf (step (facing tickEdge { onA 0b01100#5 with pph := 7, dreg := 9 }))).map
      (fun t => (t.dreg, t.pph, t.s1v)) = some (0, 7#5, true) := by decide
/-- V-T2, strength 3. -/
theorem test_tick_normal_refA :
    (nextOf (step (facing tickEdge (onA 0b10010#5)))).map State.dreg = some 30000 := by decide
/-- V-T2b, strength 4. -/
theorem test_tick_normal_refB :
    (nextOf (step (facing tickEdge (onB 0b10011#5)))).map State.dreg = some 65535 := by decide
/-- V-T5. -/
theorem test_tick_pulsed_nine :
    (nextOf (step (facing tickEdge { onA 0b10100#5 with pph := 9 }))).map (fun t => (t.dreg, t.pph)) =
      some (10000, 10#5) := by decide
/-- V-T5c, an upset phase. -/
theorem test_tick_pulsed_upset :
    (nextOf (step (facing tickEdge { onA 0b10111#5 with pph := 31 }))).map (fun t => (t.dreg, t.pph)) =
      some (10000, 12#5) := by decide
/-- V-T7. -/
theorem test_tick_waveform_first :
    (nextOf (step (facing tickEdge (onA 0b11000#5)))).map (fun t => (t.dreg, t.wph)) = some (34376, 1#7) := by decide
/-- V-T9c. -/
theorem test_tick_waveform_wraps :
    (nextOf (step (facing tickEdge { onA 0b11011#5 with wph := 127 }))).map (fun t => (t.dreg, t.wph)) =
      some (32768, 0#7) := by decide
/-- V-T10. -/
theorem test_tick_undef :
    (nextOf (step (facing tickEdge { onA 0b11100#5 with dreg := 30000, wph := 3, pph := 4 }))).map
      (fun t => (t.dreg, t.wph, t.pph, t.s1v)) = some (30000, 3#7, 4#5, false) := by decide
/-- V-T3: the clamp. -/
theorem test_scale_zero_is_clamped : scale Config.refB 0 = 0 := by decide
/-- V-S14: a pop and a tick at one edge. -/
theorem test_tick_reads_old_ctrl :
    (nextOf (step (facing tickEdge (oneToken 0b01#2)))).map (fun t => (t.dreg, statusO t)) =
      some (10000, 0b10001#5) := by decide
/-- V-D3: a second tick while the first value waits for its commit. -/
theorem test_back_to_back_ticks :
    (nextOf (step (facing tickEdge { onA 0b10100#5 with pph := 9, dreg := 40000, s1v := true }))).map
      (fun t => (t.dreg, t.s1v, t.s2v)) = some (10000, true, true) := by decide
/-- V-F3, the first edge: the older-value draw. -/
theorem test_older_draw :
    (nextOf (step (facing (.env (.coreEdge false .older)) { filled 1 with wchg := true }))).map
      (fun t => (t.wsync, t.wchg)) = some (⟨0#4, 0#4⟩, false) := by decide
/-- V-F1, edge 4, as a whole press from reset; V-F11 is the same with the pin held. -/
theorem test_press_writes_slot_zero :
    (fun t => (t.wptr, t.mem, t.pend, t.wchg)) ((evEdge .current)^[4] (drivePin .mode false State.reset)) =
      (1#4, [(0, 0b00#2)], ⟨false, false, false⟩, true) := by decide
/-- V-F5: the eleventh event is dropped and the ghost counter tells. -/
theorem test_eleventh_event_dropped :
    (fun t => (t.wptr, t.pend.strength, t.drops)) (evEdge .current { filled 10 with pend := ⟨false, true, false⟩ }) =
      (10#4, false, 1) := by decide
/-- V-F7, edge 6: Power merges while Strength is taken. -/
def mergeState : State :=
  { State.reset with
    pend := ⟨false, true, true⟩
    bprev := ⟨true, false, true⟩
    bsync := ⟨⟨true, false⟩, ⟨true, true⟩, ⟨true, false⟩⟩ }
theorem test_merge :
    (fun t => (t.pend, t.drops)) (evEdge .current mergeState) = (⟨true, false, true⟩, 1) := by decide
/-- V-R3: a tick during reset does nothing. -/
theorem test_tick_during_reset :
    (nextOf (step (facing tickEdge { assertReset State.reset with dreg := 0 }))).map (fun t => (t.dreg, t.s1v)) =
      some (0, false) := by decide
/-- R110: a clk_core edge in reset clears WCHG, and its draw changes no register. -/
theorem test_edge_in_reset_clears_flag :
    (nextOf (coreEdge true .older { filled 1 with wchg := true, rstCore := ⟨true, false⟩ })).map
      (fun t => (t.wchg, t.wsync, t.rstCore)) = some (false, ⟨0#4, 0#4⟩, ⟨true, true⟩) := by decide
/-- P4: FORCE puts CTRL at 0b11100. -/
theorem test_force_ctrl :
    (nextOf (step (facing (.force .ctrl 0b11100) State.reset))).map statusO = some 0b11100#5 := by decide

/-! ### The interface: the placed word is what the next step runs -/

theorem test_fetch_strength :
    (nextOf (step (State.reset.withFetchWord 8 0b01))).map statusO = some 0b10001#5 := by decide
theorem test_fetch_waveform :
    (nextOf (step (State.reset.withFetchWord 8 0b110))).map State.dreg = some 34376 := by decide
theorem test_fetch_tick_off :
    (nextOf (step (State.reset.withFetchWord 3 0b010))).map (fun t => (t.dreg, t.s1v)) = some (0, true) := by decide

/-! ### Witnesses: for each statement with hypotheses, a state that meets them -/

/-- PowerTokenTogglesPowerWherePresent: both kinds of build. -/
theorem wit_power_token : State.reset.cfg.hasPower = true ∧ (onB 0b10000#5).cfg.hasPower = false := by decide

/-- PowerTokenIsConsumedWithoutPower. -/
theorem wit_power_token_without_power :
    Config.hasPower (State.cfg { oneToken 0b10#2 with cfg := Config.refB }) = false ∧
    coreInReset { oneToken 0b10#2 with cfg := Config.refB } = false ∧
    fetchToken { oneToken 0b10#2 with cfg := Config.refB } = some 0b10#2 := by decide

/-- ReservedTokenIsConsumedWithoutEffect. -/
theorem wit_reserved : coreInReset (oneToken 0b11#2) = false ∧ fetchToken (oneToken 0b11#2) = some 0b11#2 := by decide

/-- PowerOffTickEmitsZeroAndFreezesPhases: power off, and a build without power. -/
theorem wit_power_off : ctrlPwr (readCtrl (onA 0b01011#5)) = 0#1 ∧ (onB 0b00000#5).cfg.hasPower = false := by decide

/-- PulsedTickAdvancesThenEmitsTableFactor: the last phase of factor 4, and the first of factor 1. -/
theorem wit_pulsed :
    (nextOf (exec .tickPulsed { State.reset with pph := 8 })).map State.pph = some 9 ∧
    (nextOf (exec .tickPulsed { State.reset with pph := 9 })).map State.pph = some 10 := by decide

/-- StepTakesNextCommandOrFreeAct: a command waits, or none does. -/
theorem wit_step : State.reset.cfg.wf = true ∧ State.reset.stim = [] ∧ (facing tickEdge State.reset).stim = tickEdge :: [] := by
  decide

/-- StepRunsDecodedTokenAtCoreEdge. -/
theorem wit_step_token :
    (facing idleEdge (oneToken 0b01#2)).cfg.wf = true ∧ coreInReset (facing idleEdge (oneToken 0b01#2)) = false ∧
    (facing idleEdge (oneToken 0b01#2)).stim = .env (.coreEdge false .current) :: [] ∧
    fetchToken (facing idleEdge (oneToken 0b01#2)) = some 0b01#2 := by decide

/-- StepRunsSelectedTickAtCoreEdge. -/
theorem wit_step_tick :
    (facing tickEdge State.reset).cfg.wf = true ∧ coreInReset (facing tickEdge State.reset) = false ∧
    (facing tickEdge State.reset).stim = .env (.coreEdge true .current) :: [] ∧
    fetchToken (facing tickEdge State.reset) = none := by decide

/-- TickAtDispatchEdgeReadsOldCtrl. -/
theorem wit_dispatch_tick : coreInReset (oneToken 0b00#2) = false ∧ fetchToken (oneToken 0b00#2) = some 0b00#2 := by
  decide

/-- CoreEdgeReadsEverythingBeforeTheEdge, EmptyConsumerViewKeepsCtrlAndReadPointer. -/
theorem wit_core_edge : coreInReset State.reset = false ∧ countR State.reset = 0 := by decide

/-- EvEdgeReadsEverythingBeforeTheEdge: a present and an absent button, an accepted write at count 9, and the two cases
without one, nothing pending and count 10. -/
theorem wit_ev_edge :
    evInReset State.reset = false ∧ present State.reset.cfg .power = true ∧
    present (onB 0b10000#5).cfg .power = false ∧
    arbiter { filled 9 with pend := ⟨false, true, false⟩ } = some .strength ∧ countW (filled 9) = 9 ∧
    arbiter (filled 9) = none ∧ countW (filled 10) = State.reset.cfg.fifoDepth := by decide

/-- FullProducerViewDropsTheEvent, with no merge. -/
theorem wit_full_drop :
    evInReset { filled 10 with pend := ⟨false, true, false⟩ } = false ∧
    arbiter { filled 10 with pend := ⟨false, true, false⟩ } = some .strength ∧
    (filled 10).cfg.fifoDepth ≤ countW { filled 10 with pend := ⟨false, true, false⟩ } ∧
    merges { filled 10 with pend := ⟨false, true, false⟩ } .mode = false ∧
    merges { filled 10 with pend := ⟨false, true, false⟩ } .strength = false ∧
    merges { filled 10 with pend := ⟨false, true, false⟩ } .power = false := by decide

/-- SecondEdgeOfWaitingButtonMerges. -/
theorem wit_merge :
    evInReset mergeState = false ∧ fall mergeState .power = true ∧ perButton mergeState.pend .power = true ∧
    arbiter mergeState ≠ some .power := by decide

/-- The capture chain of a state with the reset values of the buttons is idle. -/
theorem wit_capture_idle (n : Nat) : captureIdle (filled n) := by
  intro b _
  cases b <;> exact ⟨rfl, rfl, rfl, rfl⟩

/-- PressWritesOneTokenAtTheFourthEdge: room for one more token, and none. -/
theorem wit_press :
    evInReset (filled 9) = false ∧ present (filled 9).cfg .power = true ∧ captureIdle (filled 9) ∧
    occupancy (filled 9) < (filled 9).cfg.fifoDepth ∧
    evInReset (filled 10) = false ∧ captureIdle (filled 10) ∧ (filled 10).cfg.fifoDepth ≤ occupancy (filled 10) :=
  ⟨by decide, by decide, wit_capture_idle 9, by decide, by decide, wit_capture_idle 10, by decide⟩

/-- EventIsDispatchedAtTheThirdCoreEdge. -/
theorem wit_latency :
    State.reset.cfg.wf = true ∧ evInReset State.reset = false ∧ coreInReset State.reset = false ∧
    present State.reset.cfg .strength = true ∧ captureIdle State.reset ∧ State.reset.wptr = State.reset.rptr ∧
    State.reset.wsync = ⟨gray State.reset.wptr, gray State.reset.wptr⟩ :=
  ⟨by decide, by decide, by decide, by decide, wit_capture_idle 0, by decide, by decide⟩

/-- HeldButtonMakesOneEventAfterReset, at the first edge count it speaks of. -/
theorem wit_held :
    evInReset (drivePin .mode false State.reset) = false ∧ evAtReset (drivePin .mode false State.reset) ∧
    (drivePin .mode false State.reset).rptr = 0 ∧ (drivePin .mode false State.reset).rchg = false ∧
    perButton (drivePin .mode false State.reset).btnN .mode = false ∧
    perButton (drivePin .mode false State.reset).btnN .strength = true ∧
    perButton (drivePin .mode false State.reset).btnN .power = true ∧ 4 ≤ 4 :=
  ⟨rfl, ⟨rfl, rfl, rfl, rfl, rfl⟩, rfl, rfl, rfl, rfl, rfl, le_refl 4⟩

/-- The FIFO of a filled state is ordered: nothing read or seen yet, n tokens written. -/
theorem wit_fifo_filled : FifoOrdered (filled 10) :=
  ⟨0, 0, 0, 0, 0, 10, by decide, by decide, by decide, by decide, by decide, by decide, rfl, rfl, rfl, rfl,
    by decide, by decide, fun j _ hj => by interval_cases j <;> rfl⟩

/-- The FIFO right after reset is ordered. -/
theorem wit_fifo_reset : FifoOrdered State.reset :=
  ⟨0, 0, 0, 0, 0, 0, by decide, by decide, by decide, by decide, by decide, by decide, rfl, rfl, rfl, rfl,
    by decide, by decide, fun j _ hj => absurd hj (Nat.not_lt_zero j)⟩

/-- EveryStepKeepsFifoPositionsOrdered: a clk_ev edge waits on an ordered FIFO. -/
theorem wit_fifo_step :
    FifoOrdered (facing (.env (.evEdge .older)) State.reset) ∧
    noUpset (facing (.env (.evEdge .older)) State.reset).stim = true ∧
    ∃ t, step (facing (.env (.evEdge .older)) State.reset) = .next t :=
  ⟨wit_fifo_reset, rfl, _, rfl⟩

/-- BothViewsBoundTheTrueOccupancy, with positions beyond one turn of the pointers: R = 16, RS = 14, WS = 17, W = 18. -/
theorem wit_fifo_positions :
    FifoPositions
      { State.reset with
        rptr := 0, wptr := 2, rsync := ⟨gray 15, gray 14⟩, wsync := ⟨gray 2, gray 1⟩
        mem := [(0, 0b00#2), (1, 0b01#2)] } 14 15 16 17 18 18 :=
  ⟨by decide, by decide, by decide, by decide, by decide, by decide, by decide, by decide, by decide, by decide,
    by decide, by decide, fun j hr hj => by interval_cases j <;> rfl⟩

/-- BothViewsBoundTheTrueOccupancy, FullFifoDropsEveryEvent. -/
theorem wit_fifo_full :
    (filled 10).cfg.wf = true ∧ FifoOrdered (filled 10) ∧ evInReset (filled 10) = false ∧
    occupancy (filled 10) = (filled 10).cfg.fifoDepth :=
  ⟨by decide, wit_fifo_filled, by decide, by decide⟩

/-- PopReadsOnlyWrittenSlots. -/
theorem wit_fifo_pop :
    (oneToken 0b01#2).cfg.wf = true ∧ FifoOrdered (oneToken 0b01#2) ∧ fetchToken (oneToken 0b01#2) = some 0b01#2 :=
  ⟨by decide,
    ⟨0, 0, 0, 1, 1, 1, by decide, by decide, by decide, by decide, by decide, by decide, rfl, rfl, rfl, rfl,
      by decide, by decide, fun j _ hj => by interval_cases j; rfl⟩,
    by decide⟩

/-- FifoDeliversEachWrittenTokenOnceInOrder, on a run that writes a token and delivers it. -/
def wit_fifo_acts : List EnvAct :=
  [.pin .strength false, .evEdge .current, .evEdge .current, .evEdge .current, .evEdge .older, .coreEdge false .older,
    .coreEdge true .current, .coreEdge false .current, .coreEdge false .current]
theorem wit_fifo_run :
    State.reset.cfg.wf = true ∧ FifoOrdered State.reset ∧ (wit_fifo_acts.all fun a => !drivesReset a) = true ∧
    writtenIn wit_fifo_acts State.reset = [0b01#2] ∧ deliveredIn wit_fifo_acts State.reset = [0b01#2] :=
  ⟨by decide, wit_fifo_reset, by decide, by decide, by decide⟩

/-- SpacedEdgesNeverMergeAndAreTakenInTime: all three buttons fall at once, and the Power edge has to wait longest. -/
def wit_pins : Nat → PerButton Bool := fun _ => ⟨false, false, false⟩
theorem wit_spaced :
    evInReset State.reset = false ∧
    (∀ b, present State.reset.cfg b = true → perButton State.reset.pend b = false) ∧
    (∀ b i j, i < j → j < 6 → fall (evRun wit_pins (fun _ => .current) State.reset i) b = true →
      fall (evRun wit_pins (fun _ => .current) State.reset j) b = true → i + 3 ≤ j) ∧
    2 + buttonIndex .power + 1 < 6 ∧ fall (evRun wit_pins (fun _ => .current) State.reset 2) .power = true := by
  have none_later : ∀ j < 6, 2 < j → ∀ b ∈ [Button.mode, .strength, .power],
      fall (evRun wit_pins (fun _ => .current) State.reset j) b = false := by decide
  have none_before : ∀ j < 2, ∀ b ∈ [Button.mode, .strength, .power],
      fall (evRun wit_pins (fun _ => .current) State.reset j) b = false := by decide
  have all_buttons : ∀ b : Button, b ∈ [Button.mode, .strength, .power] := by intro b; cases b <;> decide
  refine ⟨by decide, fun b _ => by cases b <;> rfl, fun b i j hij hj hi hjf => ?_, by decide, by decide⟩
  by_cases h : i < 2
  · rw [none_before i h b (all_buttons b)] at hi
    cases hi
  · rw [none_later j hj (by omega) b (all_buttons b)] at hjf
    cases hjf

/-- FastModeAndStrengthCanStarvePower. -/
def wit_starving : State :=
  { State.reset with
    pend := ⟨true, false, true⟩
    bprev := ⟨false, true, true⟩
    bsync := ⟨⟨false, true⟩, ⟨true, false⟩, ⟨true, true⟩⟩ }
theorem wit_starve :
    evInReset wit_starving = false ∧ wit_starving.cfg.hasPower = true ∧ wit_starving.pend = ⟨true, false, true⟩ ∧
    wit_starving.bprev.strength = true ∧ wit_starving.bsync.strength = ⟨true, false⟩ ∧
    wit_starving.bprev.mode = false ∧ wit_starving.bsync.mode = ⟨false, true⟩ := by decide

/-- CtrlDependsOnlyOnTokenCounts: another order, and three MODE tokens more. -/
theorem wit_counts :
    ctrlMode (readCtrl State.reset) ≠ 0b11#2 ∧
    ([0b00#2, 0b01#2] : List Token).count 0b00#2 % 3 =
      ([0b01#2, 0b00#2, 0b00#2, 0b00#2, 0b00#2] : List Token).count 0b00#2 % 3 ∧
    ([0b00#2, 0b01#2] : List Token).count 0b01#2 % 4 =
      ([0b01#2, 0b00#2, 0b00#2, 0b00#2, 0b00#2] : List Token).count 0b01#2 % 4 ∧
    ([0b00#2, 0b01#2] : List Token).count 0b10#2 % 2 =
      ([0b01#2, 0b00#2, 0b00#2, 0b00#2, 0b00#2] : List Token).count 0b10#2 % 2 := by decide

/-- NormalDutyStrictlyIncreasesWithStrength and ScaledDutyFitsItsRegister: X8 on both reference builds. -/
theorem wit_normal_duty :
    Config.refB.wf = true ∧ [1, 2, 3, 4].map (scale Config.refA) = [10000, 20000, 30000, 40000] ∧
    [1, 2, 3, 4].map (scale Config.refB) = [16383, 32767, 49151, 65535] := by decide

/-- PhaseCountersCountTheirOwnTicks, from the last pulse phase, and from an upset one without a Pulsed tick. -/
theorem wit_phases :
    ([EnvAct.coreEdge true .current, .evEdge .older].all fun a => !drivesReset a) = true ∧
    ({ onA 0b10100#5 with pph := 19 } : State).pph.toNat < 20 ∧
    ticksIn .tickPulsed [.coreEdge true .current, .evEdge .older] { onA 0b10100#5 with pph := 19 } = 1 ∧
    ticksIn .tickPulsed [.coreEdge true .current] { onA 0b10000#5 with pph := 31 } = 0 := by decide

/-- StrengthDoesNotReachPulsedOrWaveformOutput: both modes. -/
theorem wit_strength_blind :
    coreInReset (onA 0b10100#5) = false ∧ tickSelOf (readCtrl (onA 0b10100#5)) = 0b101#3 ∧
    tickSelOf (readCtrl (onA 0b11000#5)) = 0b110#3 := by decide

/-- EmittedDutyIsSetThenCommittedOnEveryChannel. -/
theorem wit_set_commit :
    coreInReset (onA 0b10001#5) = false ∧ decodeTicksel3 (tickSelOf (readCtrl (onA 0b10001#5))) ≠ .tickUndef := by decide

/-- UndefinedModeTickIsFollowedByNoStrobe. -/
theorem wit_undefined_mode :
    coreInReset (onA 0b11100#5) = false ∧ tickSelOf (readCtrl (onA 0b11100#5)) = 0b111#3 := by decide

/-- EveryStepKeepsRegistersLegal: with power and without, at a tick. -/
theorem wit_legal :
    LegalRegisters (facing tickEdge State.reset) ∧ LegalRegisters (facing tickEdge (onB 0b10000#5)) ∧
    ∃ t, step (facing tickEdge State.reset) = .next t := by
  refine ⟨⟨by decide, by decide, by decide, by decide, by decide⟩, ⟨by decide, by decide, by decide, by decide, by decide⟩,
    _, rfl⟩

/-- EveryStepKeepsStorageCanonical, NoStepChangesTheBuild. -/
theorem wit_storage :
    Memory.wf (facing (.env (.evEdge .current)) (filled 3)).mem ∧
    ∃ t, step (facing (.env (.evEdge .current)) (filled 3)) = .next t :=
  ⟨by decide, _, rfl⟩

/-- EveryStepKeepsResetValuesInReset: a clk_ev edge in reset, right after rst_n has risen. -/
theorem wit_reset_holds :
    ResetHolds (facing (.env (.evEdge .current)) (releaseReset (assertReset State.reset))) ∧
    ∃ t, step (facing (.env (.evEdge .current)) (releaseReset (assertReset State.reset))) = .next t :=
  ⟨⟨fun _ => ⟨rfl, rfl, rfl, rfl, rfl⟩, fun _ => ⟨rfl, rfl, rfl, rfl, rfl, rfl, rfl, rfl⟩, fun h => nomatch h⟩, _, rfl⟩

/-- EveryStepKeepsResetValuesInReset: an upset of CTRL in reset, which does not reach it. -/
theorem wit_reset_holds_upset :
    ResetHolds (facing (.force .ctrl 0b01011) (assertReset State.reset)) ∧
    (nextOf (step (facing (.force .ctrl 0b01011) (assertReset State.reset)))).map State.ctrl = some 0b10000#5 :=
  ⟨⟨fun _ => ⟨rfl, rfl, rfl, rfl, rfl⟩, fun _ => ⟨rfl, rfl, rfl, rfl, rfl, rfl, rfl, rfl⟩,
    fun _ => ⟨rfl, rfl, rfl, rfl⟩⟩, by decide⟩

/-- EdgeInResetClearsChangeFlagAndMovesSynchroniser: the second edge after the release, of either domain. -/
theorem wit_edge_in_reset :
    State.rstN { filled 1 with wchg := true, rstCore := ⟨true, false⟩ } = true ∧
    coreInReset { filled 1 with wchg := true, rstCore := ⟨true, false⟩ } = true ∧
    evInReset { State.reset with rchg := true, rstEv := ⟨true, false⟩ } = true := by decide

/-- OnlyAnIllFormedBuildStops: a build at the edge of the constraints. -/
def edgeBuild : Config := { Config.refA with fifoDepth := 15, fullScale := 4, dutyBias := 1 }
theorem wit_builds :
    (1 ≤ edgeBuild.fifoDepth ∧ edgeBuild.fifoDepth ≤ 2 ^ 4 - 1 ∧ 4 ≤ edgeBuild.fullScale ∧
      edgeBuild.fullScale - edgeBuild.dutyBias ≤ 2 ^ edgeBuild.dutyW - 1 ∧
      (edgeBuild.dutyBias = 0 ∨ edgeBuild.dutyBias = 1) ∧ 16 ≤ edgeBuild.dutyW) ∧
    ¬ (Config.fifoDepth { edgeBuild with fifoDepth := 16 } ≤ 2 ^ 4 - 1) := by decide

/-- EachRegisterHasItsOwnWriter: one act of each kind, and a CTRL that changes. -/
theorem wit_writers :
    drivesReset (.pin .mode false) = false ∧ isCoreEdge (.evEdge .current) = false ∧
    isEvEdge (.coreEdge true .current) = false ∧ drivesReset (.coreEdge false .current) = false ∧
    (afterAct (.coreEdge false .current) (oneToken 0b01#2)).ctrl ≠ (oneToken 0b01#2).ctrl := by decide

/-- PowerIsHardwiredOnWithoutPower. -/
theorem wit_no_power : (onB 0b00000#5).cfg.hasPower = false := by decide

/-- AssertingResetResetsEveryRegisterAtOnce. -/
theorem wit_assert_reset :
    (facing (.env (.rstN false)) (filled 5)).cfg.wf = true ∧
    (facing (.env (.rstN false)) (filled 5)).stim = .env (.rstN false) :: [] := by decide

/-- NothingButThePinsMovesDuringReset, EachDomainLeavesResetAfterTwoOwnEdges: one edge is too few, the second lets go. -/
theorem wit_in_reset :
    (assertReset State.reset).rstN = false ∧ ResetHolds (assertReset State.reset) ∧
    ([EnvAct.evEdge .current, .coreEdge true .current, .evEdge .current].all fun a => !drivesReset a) = true ∧
    evInReset (afterActs [.evEdge .current, .coreEdge true .current] (releaseReset (assertReset State.reset))) = true ∧
    evInReset (afterActs [.evEdge .current, .coreEdge true .current, .evEdge .current]
      (releaseReset (assertReset State.reset))) = false :=
  ⟨rfl, ⟨fun _ => ⟨rfl, rfl, rfl, rfl, rfl⟩, fun _ => ⟨rfl, rfl, rfl, rfl, rfl, rfl, rfl, rfl⟩,
    fun _ => ⟨rfl, rfl, rfl, rfl⟩⟩, by decide, by decide, by decide⟩

/-- EncodedOperationIsFetchedDecodedAndRun: TICK_OFF on a build with power, TICK_NORMAL on one without. -/
theorem wit_encoded :
    State.reset.cfg.wf = true ∧ State.reset.cfg.hasPower = true ∧ formatOf (.tickOff 0b11#2) = .ticksel3 ∧
    (onB 0b10000#5).cfg.wf = true ∧ (∀ modeBits, Instr.tickNormal ≠ .tickOff modeBits) ∧ formatOf .mode = .evt2 := by
  refine ⟨by decide, by decide, rfl, by decide, (fun _ h => nomatch h), rfl⟩

end Sys2Proof.Tests
end

section
/-!
PROOFS. The scope of the block (spec/00_scope.md): what a step takes (R15), the build that no step changes (R9), and
the Gray code of the FIFO pointers (R13).
-/

namespace Sys2Proof.Machine

/-! ### What a step takes -/

/-- A well-formed build is not refused (R200). -/
theorem step_of_wf {s : State} (hwf : s.cfg.wf = true) : step s = advance s := by
  rw [step, if_pos hwf]

theorem advance_of_stim_cons {s : State} {c : Stim} {rest : List Stim} (hstim : s.stim = c :: rest) :
    advance s = runStim c { s with stim := rest } := by
  rw [advance, hstim]

theorem advance_of_stim_nil {s : State} (hstim : s.stim = []) :
    advance s = runEnv (Config.envAct s.now) { s with now := s.now + 1 } := by
  rw [advance, hstim]

/-! ### The build, update by update -/

@[simp] theorem drivePin_cfg (b : Button) (level : Bool) (s : State) : (drivePin b level s).cfg = s.cfg := by
  unfold drivePin
  split <;> rfl

@[simp] theorem driveReset_cfg (level : Bool) (s : State) : (driveReset level s).cfg = s.cfg := by
  cases level <;> rfl

@[simp] theorem scriptReset_cfg (s : State) : (scriptReset s).cfg = s.cfg := rfl

@[simp] theorem evResetEdge_cfg (s : State) : (evResetEdge s).cfg = s.cfg := by
  rw [evResetEdge_eq]

@[simp] theorem coreResetEdge_cfg (s : State) : (coreResetEdge s).cfg = s.cfg := by
  rw [coreResetEdge_eq]

@[simp] theorem coreNext_cfg (tick : Bool) (draw : Draw) (s : State) : (coreNext tick draw s).cfg = s.cfg := rfl

@[simp] theorem runEnqueue_cfg (b : Option Button) (s : State) : (runEnqueue b s).cfg = s.cfg := by
  cases b with
  | none => rfl
  | some b => exact enqueue_cfg b s

@[simp] theorem evStep_cfg (draw : Draw) (s : State) : (evStep draw s).cfg = s.cfg := by
  rw [evStep_eq, captureButtons_cfg, runEnqueue_cfg, syncRptr_cfg]

@[simp] theorem evEdge_cfg (draw : Draw) (s : State) : (evEdge draw s).cfg = s.cfg := by
  unfold evEdge
  split
  · exact evResetEdge_cfg s
  · exact evStep_cfg draw s

/-- No act of the environment changes the build (R9). -/
@[simp] theorem afterAct_cfg (a : EnvAct) (s : State) : (afterAct a s).cfg = s.cfg := by
  cases a with
  | pin b level => exact drivePin_cfg b level s
  | rstN level => exact driveReset_cfg level s
  | evEdge draw => exact evEdge_cfg draw s
  | coreEdge tick draw =>
    rw [afterAct_coreEdge]
    split
    · exact coreResetEdge_cfg s
    · exact coreNext_cfg tick draw s

@[simp] theorem setRegister_cfg (r : ForceReg) (v : Nat) (s : State) : (setRegister r v s).cfg = s.cfg := by
  cases r <;> rfl

/-- No upset changes the build: FORCE names registers only (R90). -/
@[simp] theorem force_cfg (r : ForceReg) (v : Nat) (s : State) : (force r v s).cfg = s.cfg := by
  unfold force
  split
  · exact setRegister_cfg r v s
  · rfl

/-- No stimulus command changes the build (R9, R90). -/
theorem runStim_keeps_cfg {c : Stim} {s t : State} (h : runStim c s = .next t) : t.cfg = s.cfg := by
  rw [runStim_eq] at h
  cases h
  cases c with
  | env a => exact afterAct_cfg a s
  | reset => exact scriptReset_cfg s
  | force r v => exact force_cfg r v s

theorem step_keeps_cfg {s t : State} (h : step s = .next t) : t.cfg = s.cfg := by
  obtain ⟨-, hcases⟩ := step_eq_next h
  rcases hcases with ⟨c, rest, -, hrun⟩ | ⟨-, rfl⟩
  · exact runStim_keeps_cfg (s := { s with stim := rest }) hrun
  · exact afterAct_cfg _ _

/-! ### The Gray code, bit by bit -/

/-- Bit i of `gray(b)` is the XOR of the bits i and i + 1 of b (R13). -/
theorem gray_getLsbD (b : Ptr) (i : Nat) : (gray b).getLsbD i = (b.getLsbD i ^^ b.getLsbD (i + 1)) := by
  simp [gray, Nat.add_comm]

/-- Bit i of `bin(g)` is the XOR of the bits of g from i up; those past PTR_W = 4 are 0 (R13). -/
theorem bin_getLsbD (g : Ptr) (i : Nat) :
    (bin g).getLsbD i = (g.getLsbD i ^^ g.getLsbD (i + 1) ^^ g.getLsbD (i + 2) ^^ g.getLsbD (i + 3)) := by
  simp [bin, Nat.add_comm]

/-- The XORs of neighbouring bits telescope to `b_i XOR b_(i+4)`, and bit i + 4 is past the width. -/
@[simp] theorem bin_gray (b : Ptr) : bin (gray b) = b := by
  apply BitVec.eq_of_getLsbD_eq
  intro i _
  simp [bin_getLsbD, gray_getLsbD]

/-- Two neighbouring XORs of bits differ in `g_i`, and in bit i + 4, which is past the width. -/
@[simp] theorem gray_bin (g : Ptr) : gray (bin g) = g := by
  apply BitVec.eq_of_getLsbD_eq
  intro i _
  simp [gray_getLsbD, bin_getLsbD]

/-- Consecutive pointers, the wrap from 15 to 0 included, have Gray codes one bit apart (R13): a check of the 16
pointer values. -/
theorem gray_succ_xor_gray (b : Ptr) : ∃ i : Fin 4, gray (b + 1) ^^^ gray b = BitVec.ofNat 4 (2 ^ i.val) := by
  revert b
  decide

end Sys2Proof.Machine

namespace Sys2Proof.Proofs

open Sys2Proof.Machine

/-- Settles O11: the build is not refused, and `advance` looks at the stimulus alone. -/
theorem stepTakesNextCommandOrFreeAct : Obligations.StepTakesNextCommandOrFreeAct := by
  intro s hwf
  rw [step_of_wf hwf]
  exact ⟨fun _ _ hstim => advance_of_stim_cons hstim, advance_of_stim_nil⟩

/-- Settles O45, by the cases of what a step can run. -/
theorem noStepChangesTheBuild : Obligations.NoStepChangesTheBuild :=
  fun _ _ => step_keeps_cfg

/-- Settles O58, from the bits of `gray` and `bin`. -/
theorem grayCodeIsInvertedAndChangesOneBit : Obligations.GrayCodeIsInvertedAndChangesOneBit := by
  intro b
  have suffix_xor := bin_getLsbD b
  refine ⟨rfl, ?_, ?_, ?_, ?_, bin_gray b, gray_bin b, gray_succ_xor_gray b⟩
  · simpa using suffix_xor 3
  · simpa using suffix_xor 2
  · simpa using suffix_xor 1
  · simpa using suffix_xor 0

end Sys2Proof.Proofs
end

section
/-!
PROOFS. The state of the block (spec/10_state.md): the legal values of the registers, which every step keeps (R23, R25,
R30, R31), the values after reset (R39), the outputs (R44, R45) and a tick at a dispatch edge (R27).
-/

namespace Sys2Proof

/-- A build is well formed exactly if it meets each constraint of R9. -/
theorem Config.wf_iff (c : Config) :
    c.wf = true ↔ (1 ≤ c.fifoDepth ∧ c.fifoDepth ≤ 15) ∧ 4 ≤ c.fullScale ∧
      c.fullScale - c.dutyBias ≤ 2 ^ c.dutyW - 1 ∧ c.dutyBias ≤ 1 ∧ 16 ≤ c.dutyW := by
  simp [Config.wf, depthOk, scaleOk, dutyFits, biasOk, widthOk, and_assoc]

/-- TICK_OFF is selected exactly with power off, whatever the mode bits (R86). -/
theorem decodeTicksel3_eq_tickOff (sel : TickSel) (modeBits : BitVec 2) :
    decodeTicksel3 sel = .tickOff modeBits ↔ sel.extractLsb' 2 1 = 0b0#1 ∧ sel.extractLsb' 0 2 = modeBits := by
  revert sel modeBits
  decide

end Sys2Proof

namespace Sys2Proof.Machine

/-! ### CTRL and its fields -/

/-- The top bit of the selection is PWR (R80, R86). -/
@[simp] theorem tickSelOf_topBit (c : Ctrl) : (tickSelOf c).extractLsb' 2 1 = ctrlPwr c := by
  revert c
  decide

/-- Hardwiring PWR leaves MODE as it is (R25). -/
@[simp] theorem ctrlMode_hardwirePwr (c : Config) (v : Ctrl) : ctrlMode (hardwirePwr c v) = ctrlMode v := by
  unfold hardwirePwr
  split
  · rfl
  · revert v
    decide

/-- Without power the hardwired bit is 1 (R25). -/
theorem ctrlPwr_hardwirePwr {c : Config} (hpower : c.hasPower = false) (v : Ctrl) :
    ctrlPwr (hardwirePwr c v) = 1#1 := by
  simp only [hardwirePwr, hpower, Bool.false_eq_true, if_false]
  revert v
  decide

/-- Without power PWR reads 1, whatever is stored (R25). -/
theorem ctrlPwr_readCtrl {s : State} (hpower : s.cfg.hasPower = false) : ctrlPwr (readCtrl s) = 1#1 :=
  ctrlPwr_hardwirePwr hpower s.ctrl

/-- No tick selects TICK_OFF on a build without power (R151). -/
theorem decodeTicksel3_ne_tickOff {s : State} (hpower : s.cfg.hasPower = false) (modeBits : BitVec 2) :
    decodeTicksel3 (tickSelOf (readCtrl s)) ≠ .tickOff modeBits := by
  intro hoff
  obtain ⟨hzero, -⟩ := (decodeTicksel3_eq_tickOff _ _).1 hoff
  rw [tickSelOf_topBit, ctrlPwr_readCtrl hpower] at hzero
  exact absurd hzero (by decide)

/-- advanceMode reaches the three modes only, from the undefined 0b11 too (R131, R132). -/
theorem nextMode_ne_undefined (m : BitVec 2) : nextMode m ≠ 0b11#2 := by
  revert m
  decide

/-- Only the MODE token writes MODE (R130 to R137). -/
theorem ctrlMode_storedCtrl (c : Config) (v : Ctrl) (tok : Token) :
    ctrlMode (storedCtrl c v tok) = if tok = 0b00#2 then nextMode (ctrlMode v) else ctrlMode v := by
  unfold storedCtrl
  repeat' split
  all_goals simp [advanceMode, advanceStrength, togglePower, ctrlMode_pack]

/-- Without power every token leaves PWR stored as 1: it hardwires PWR, or it writes nothing (R25, R136). -/
theorem ctrlPwr_storedCtrl {c : Config} {v : Ctrl} (hpower : c.hasPower = false) (hv : ctrlPwr v = 1#1)
    (tok : Token) : ctrlPwr (storedCtrl c v tok) = 1#1 := by
  simp only [storedCtrl, hpower, Bool.false_eq_true, if_false, ite_self]
  split
  · exact ctrlPwr_hardwirePwr hpower _
  split
  · exact ctrlPwr_hardwirePwr hpower _
  · exact hv

/-! ### Emitted duties fit DUTY_W -/

/-- The factors of PULSE_LUT are at most 4 (R61). -/
theorem pulseFactor_le (i : Nat) : pulseFactor i ≤ 4 := by
  have table : ∀ k : Fin 20, (pulseLut[k.val]).toNat ≤ 4 := by decide
  exact table ⟨i % 20, Nat.mod_lt i (by decide)⟩

theorem strengthOf_le (v : Ctrl) : strengthOf v ≤ 4 := (ctrlStr v).isLt

/-- `scale` up to STRENGTH_MAX stays at or below FULL_SCALE - DUTY_BIAS, which R9 asks to fit (R154). -/
theorem scale_fits {c : Config} (hwf : c.wf = true) {v : Nat} (hv : v ≤ 4) : scale c v < 2 ^ c.dutyW := by
  obtain ⟨-, -, hfits, -, -⟩ := (Config.wf_iff c).1 hwf
  have hpos : 0 < 2 ^ c.dutyW := Nat.two_pow_pos _
  have hquot : c.fullScale * v / 4 ≤ c.fullScale := by
    rw [Nat.div_le_iff_le_mul_add_pred (by decide)]
    have := Nat.mul_le_mul_left c.fullScale hv
    omega
  unfold scale
  omega

/-- A SINE_LUT entry has 16 bits and DUTY_W is at least 16 (R9, R69). -/
theorem sineDuty_fits {c : Config} (hwf : c.wf = true) (w : WavePhase) : sineDuty c w < 2 ^ c.dutyW := by
  obtain ⟨-, -, -, -, hwidth⟩ := (Config.wf_iff c).1 hwf
  calc sineDuty c w < 2 ^ 16 := (sineEntry c w).isLt
    _ ≤ 2 ^ c.dutyW := Nat.pow_le_pow_right (by decide) hwidth

/-- Whatever a tick emits fits DREG (R31, R151 to R155). -/
theorem tickDuty_fits {c : Config} (hwf : c.wf = true) {sel : TickSel} {v : Ctrl} {w : WavePhase} {p : PulsePhase}
    {d : Nat} (hd : tickDuty sel c v w p = some d) : d < 2 ^ c.dutyW := by
  unfold tickDuty at hd
  split at hd
  · cases hd
    exact Nat.two_pow_pos _
  split at hd
  · cases hd
    exact scale_fits hwf (strengthOf_le v)
  split at hd
  · cases hd
    exact scale_fits hwf (pulseFactor_le _)
  split at hd
  · cases hd
    exact sineDuty_fits hwf _
  · cases hd

/-- An edge emits nothing, or a duty that fits DREG. -/
theorem edgeDuty_fits {s : State} (hwf : s.cfg.wf = true) {tick : Bool} {d : Nat} (hd : edgeDuty tick s = some d) :
    d < 2 ^ s.cfg.dutyW := by
  cases tick with
  | false => cases hd
  | true => exact tickDuty_fits hwf hd

/-! ### Registers after a clk_core edge -/

/-- PPH stays an index of PULSE_LUT: a pulsed tick steps it modulo 20, the others leave it (R30, R153). -/
theorem tickPph_lt (sel : TickSel) {p : PulsePhase} (hp : p.toNat < 20) : (tickPph sel p).toNat < 20 := by
  unfold tickPph
  split
  · simp only [nextPph, BitVec.toNat_ofNat]
    omega
  · exact hp

/-- An edge leaves CTRL, or stores what the popped token makes of it (R112, R130). -/
theorem coreNext_ctrl_cases (tick : Bool) (draw : Draw) (s : State) :
    (coreNext tick draw s).ctrl = s.ctrl ∨ ∃ tok, (coreNext tick draw s).ctrl = storedCtrl s.cfg s.ctrl tok := by
  unfold coreNext
  cases fetchToken s with
  | none => exact .inl rfl
  | some tok => exact .inr ⟨tok, rfl⟩

/-- A clk_core edge of a well-formed build keeps the registers legal; only CTRL, PPH and DREG are at stake. -/
theorem coreNext_legal {s : State} (hwf : s.cfg.wf = true) (h : LegalRegisters s) (tick : Bool) (draw : Draw) :
    LegalRegisters (coreNext tick draw s) := by
  obtain ⟨hmode, hpph, hdreg, hpower, hstim⟩ := h
  rw [readCtrl, ctrlMode_hardwirePwr] at hmode
  refine ⟨?mode, ?pph, ?dreg, fun hno => ⟨?pwr, (hpower hno).2⟩, hstim⟩
  case mode =>
    rw [readCtrl, ctrlMode_hardwirePwr]
    rcases coreNext_ctrl_cases tick draw s with hsame | ⟨tok, hstored⟩
    · rwa [hsame]
    · rw [hstored, ctrlMode_storedCtrl]
      split
      · exact nextMode_ne_undefined _
      · exact hmode
  case pph =>
    cases tick with
    | false => exact hpph
    | true => exact tickPph_lt _ hpph
  case dreg =>
    change (edgeDuty tick s).getD s.dreg < 2 ^ s.cfg.dutyW
    cases hd : edgeDuty tick s with
    | none => exact hdreg
    | some d => exact edgeDuty_fits hwf hd
  case pwr =>
    obtain ⟨hstored1, -⟩ := hpower hno
    rcases coreNext_ctrl_cases tick draw s with hsame | ⟨tok, hstored⟩
    · rwa [hsame]
    · rw [hstored]
      exact ctrlPwr_storedCtrl hno hstored1 tok

/-! ### Registers after a clk_ev edge -/

/-- A clk_ev edge writes the button registers, the read-pointer synchroniser, the write side of the FIFO and the ghost
counter, and nothing else (R217). -/
theorem evStep_frame (draw : Draw) (s : State) :
    evStep draw s = { s with
      pend := forButtons (nextPend s)
      bsync := forButtons (nextBsync s)
      bprev := forButtons (nextBprev s)
      rsync := (evStep draw s).rsync
      rchg := (evStep draw s).rchg
      wptr := (evStep draw s).wptr
      wchg := (evStep draw s).wchg
      mem := (evStep draw s).mem
      drops := (evStep draw s).drops } := by
  rw [evStep_eq]
  cases accepted s with
  | none => rfl
  | some b => rfl

/-- The registers of an absent button rest (log 8). -/
theorem next_of_absent {s : State} {b : Button} (habsent : present s.cfg b = false) :
    nextPend s b = perButton s.pend b ∧ nextBprev s b = perButton s.bprev b ∧
      nextBsync s b = perButton s.bsync b := by
  simp [nextPend, nextBprev, nextBsync, habsent]

/-- A clk_ev edge keeps the registers legal; only those of an absent Power button are at stake. -/
theorem evStep_legal {s : State} (h : LegalRegisters s) (draw : Draw) : LegalRegisters (evStep draw s) := by
  obtain ⟨hmode, hpph, hdreg, hpower, hstim⟩ := h
  rw [evStep_frame]
  refine ⟨hmode, hpph, hdreg, fun hno => ?_, hstim⟩
  obtain ⟨hpwr, hpend, hbprev, hbsync⟩ := hpower hno
  obtain ⟨hpendNext, hbprevNext, hbsyncNext⟩ := next_of_absent (s := s) (b := .power) hno
  exact ⟨hpwr, hpendNext.trans hpend, hbprevNext.trans hbprev, hbsyncNext.trans hbsync⟩

/-! ### Reset -/

/-- CTRL after reset reads as stored: PWR is 1 already, so hardwiring it changes nothing (R25, R39). -/
theorem readCtrl_resetOf (c : Config) : readCtrl (State.resetOf c) = 0b10000#5 := by
  change hardwirePwr c 0b10000#5 = 0b10000#5
  unfold hardwirePwr
  split <;> rfl

theorem evAtReset_resetOf (c : Config) : evAtReset (State.resetOf c) := ⟨rfl, rfl, rfl, rfl, rfl⟩

theorem coreAtReset_resetOf (c : Config) : coreAtReset (State.resetOf c) :=
  ⟨rfl, rfl, rfl, rfl, rfl, rfl, rfl, rfl⟩

/-- A fresh FIFO has all its positions at 0 (R39, R115). -/
theorem fifoOrdered_resetOf (c : Config) : FifoOrdered (State.resetOf c) :=
  ⟨0, 0, 0, 0, 0, 0, le_rfl, le_rfl, le_rfl, le_rfl, le_rfl, Nat.zero_le _, rfl, rfl, rfl, rfl,
    (nomatch ·), (nomatch ·), fun j _ hj => absurd hj (Nat.not_lt_zero j)⟩

theorem resetOf_legal (c : Config) : LegalRegisters (State.resetOf c) := by
  have hphase : (0#5).toNat < 20 := by decide
  have hpwr : ctrlPwr 0b10000#5 = 1#1 := by decide
  refine ⟨?mode, hphase, Nat.two_pow_pos _, fun _ => ⟨hpwr, rfl, rfl, rfl⟩, rfl⟩
  case mode =>
    rw [readCtrl_resetOf]
    decide

theorem resetHolds_resetOf (c : Config) : ResetHolds (State.resetOf c) :=
  ⟨fun _ => evAtReset_resetOf c, fun _ => coreAtReset_resetOf c, (nomatch ·)⟩

/-- Asserting rst_n makes the registers legal, whatever they were; the stimulus stays (R230). -/
theorem assertReset_legal {s : State} (hstim : noUpset s.stim = true) : LegalRegisters (assertReset s) := by
  obtain ⟨hmode, hpph, hdreg, hpower, -⟩ := resetOf_legal s.cfg
  exact ⟨hmode, hpph, hdreg, hpower, hstim⟩

/-! ### Registers after a step -/

/-- Driving a pin writes no register. -/
theorem drivePin_legal {s : State} (h : LegalRegisters s) (b : Button) (level : Bool) :
    LegalRegisters (drivePin b level s) := by
  unfold drivePin
  split
  · exact h
  · exact h

theorem driveReset_legal {s : State} (h : LegalRegisters s) (level : Bool) : LegalRegisters (driveReset level s) := by
  cases level with
  | true => exact h
  | false =>
    obtain ⟨-, -, -, -, hstim⟩ := h
    exact assertReset_legal hstim

/-- Every act of the environment keeps the registers of a well-formed build legal (R47). -/
theorem afterAct_legal {s : State} (hwf : s.cfg.wf = true) (h : LegalRegisters s) (a : EnvAct) :
    LegalRegisters (afterAct a s) := by
  cases a with
  | pin b level => exact drivePin_legal h b level
  | rstN level => exact driveReset_legal h level
  | evEdge draw =>
    rw [afterAct_evEdge, evEdge]
    split
    · rw [evResetEdge_eq]
      exact h
    · exact evStep_legal h draw
  | coreEdge tick draw =>
    rw [afterAct_coreEdge]
    split
    · rw [coreResetEdge_eq]
      exact h
    · exact coreNext_legal hwf h tick draw

/-- The rest of a stimulus without upsets has none either. -/
theorem noUpset_tail {c : Stim} {rest : List Stim} (h : noUpset (c :: rest) = true) : noUpset rest = true := by
  rw [noUpset, List.all_cons, Bool.and_eq_true] at h
  exact h.2

theorem step_keeps_legal {s t : State} (h : LegalRegisters s) (hstep : step s = .next t) : LegalRegisters t := by
  obtain ⟨hwf, ⟨c, rest, hstim, hrun⟩ | ⟨-, rfl⟩⟩ := step_eq_next hstep
  · obtain ⟨hmode, hpph, hdreg, hpower, hquiet⟩ := h
    rw [hstim] at hquiet
    have hrest : LegalRegisters { s with stim := rest } := ⟨hmode, hpph, hdreg, hpower, noUpset_tail hquiet⟩
    rw [runStim_eq] at hrun
    cases hrun
    cases c with
    | env a => exact afterAct_legal (s := { s with stim := rest }) hwf hrest a
    | reset => exact assertReset_legal (s := { s with stim := rest }) (noUpset_tail hquiet)
    | force r v => cases hquiet
  · exact afterAct_legal (s := { s with now := s.now + 1 }) hwf h _

/-! ### A tick at a dispatch edge -/

theorem coreEdge_of_active {s : State} (hactive : coreActive s) (tick : Bool) (draw : Draw) :
    coreEdge tick draw s = .next (coreNext tick draw s) := by
  rw [coreEdge_eq, if_neg (by simp [show coreInReset s = false from hactive])]

/-- Stage 1 holds DREG where nothing is emitted (R180). -/
theorem capture_dreg (d : Option Nat) (s : State) : (capture d s).dreg = d.getD s.dreg := by
  cases d <;> rfl

/-- An edge without a tick runs the popped token alone, after the parts that decode nothing (R112, R130). -/
theorem exec_token_coreNext {s : State} {tok : Token} (hfetch : fetchToken s = some tok) (draw : Draw) :
    exec (decodeEvt2 tok) (consume (capture none (clockCore draw s))) = .next (coreNext false draw s) := by
  have hrun : coreStep false draw s = runToken (fetchToken s) (capture none (clockCore draw s)) := rfl
  rw [← coreStep_eq, hrun, hfetch]
  rfl

end Sys2Proof.Machine

namespace Sys2Proof.Proofs

open Sys2Proof.Machine

/-- Settles O42, by the cases of what a step can run: an edge of either clock, a pin, or a reset. -/
theorem everyStepKeepsRegistersLegal : Obligations.EveryStepKeepsRegistersLegal :=
  fun _ _ => step_keeps_legal

/-- Settles O14: the next state of an edge reads the tick's operands and the token's before the edge, and the two write
disjoint registers. -/
theorem tickAtDispatchEdgeReadsOldCtrl : Obligations.TickAtDispatchEdgeReadsOldCtrl := by
  intro s draw tok hactive hfetch
  refine ⟨coreNext true draw s, _, coreNext false draw s, coreEdge_of_active hactive true draw, exec_tick _ _,
    coreEdge_of_active hactive false draw, ?dreg, ?s1v, ?wph, ?pph, rfl, rfl, exec_token_coreNext hfetch draw⟩
  case dreg =>
    rw [capture_dreg]
    rfl
  case s1v =>
    rw [capture_s1v]
    rfl
  case wph =>
    rw [capture_wph]
    rfl
  case pph =>
    rw [capture_pph]
    rfl

/-- Settles O41: each port is its register by definition (R44, R45). -/
theorem outputsAreDrivenFromRegisters : Obligations.OutputsAreDrivenFromRegisters :=
  fun _ _ => ⟨rfl, rfl, rfl, rfl⟩

/-- Settles O48: every read of CTRL hardwires PWR, and the top bit of the selection is PWR. -/
theorem powerIsHardwiredOnWithoutPower : Obligations.PowerIsHardwiredOnWithoutPower :=
  fun _ v hpower =>
    ⟨ctrlPwr_readCtrl hpower, ctrlPwr_readCtrl (s := writeCtrl v _) hpower, decodeTicksel3_ne_tickOff hpower⟩

/-- Settles O49, register by register. -/
theorem resetStateHoldsTheResetTable : Obligations.ResetStateHoldsTheResetTable :=
  fun c => ⟨evAtReset_resetOf c, coreAtReset_resetOf c, readCtrl_resetOf c, readCtrl_resetOf c,
    fun _ => ⟨rfl, rfl, rfl⟩, rfl, rfl⟩

/-- Settles O50, invariant by invariant. -/
theorem resetStateMeetsEveryInvariant : Obligations.ResetStateMeetsEveryInvariant :=
  ⟨fun c _ => ⟨fifoOrdered_resetOf c, resetOf_legal c, resetHolds_resetOf c, reset_mem_wf⟩,
    by decide, rfl⟩

end Sys2Proof.Proofs
end

section
/-!
PROOFS. The memory of the block (spec/20_memory.md): the canonical form of the FIFO storage (R64, R65), the positions of
the pointers and the two views of the occupancy (R67, R108, R111, R115), and the order of delivery (R73).
-/

namespace Sys2Proof.Machine

/-! ### The storage, update by update -/

/-- Every upset keeps the storage canonical: only FORCE of a slot writes it, and a slot has 4 bits (R64, R90). -/
theorem setRegister_mem_wf {s : State} (h : Memory.wf s.mem) (r : ForceReg) (v : Nat) :
    Memory.wf (setRegister r v s).mem := by
  cases r with
  | mem slot => exact slotWrite_keeps_wf s.mem _ _ h slot.isLt
  | _ => exact h

theorem force_mem_wf {s : State} (h : Memory.wf s.mem) (r : ForceReg) (v : Nat) : Memory.wf (force r v s).mem := by
  unfold force
  split
  · exact setRegister_mem_wf h r v
  · exact h

/-- A clk_ev edge writes slot WPTR or nothing (R65, R106). -/
theorem evStep_mem_wf {s : State} (h : Memory.wf s.mem) (draw : Draw) : Memory.wf (evStep draw s).mem := by
  rw [evStep_eq, captureButtons_mem]
  cases accepted s with
  | none => exact h
  | some b => exact slotWrite_keeps_wf s.mem _ _ h s.wptr.isLt

/-- A storage that nobody has written is canonical. -/
theorem nil_mem_wf : Memory.wf [] := reset_mem_wf

theorem afterAct_mem_wf {s : State} (h : Memory.wf s.mem) (a : EnvAct) : Memory.wf (afterAct a s).mem := by
  cases a with
  | pin b level =>
    rw [afterAct_pin, drivePin]
    split
    · exact h
    · exact h
  | rstN level =>
    cases level with
    | true => exact h
    | false => exact nil_mem_wf
  | evEdge draw =>
    rw [afterAct_evEdge, evEdge]
    split
    · rw [evResetEdge_eq]
      exact h
    · exact evStep_mem_wf h draw
  | coreEdge tick draw =>
    rw [afterAct_coreEdge]
    split
    · rw [coreResetEdge_eq]
      exact h
    · exact h

theorem step_keeps_mem_wf {s t : State} (h : Memory.wf s.mem) (hstep : step s = .next t) : Memory.wf t.mem := by
  obtain ⟨-, ⟨c, rest, -, hrun⟩ | ⟨-, rfl⟩⟩ := step_eq_next hstep
  · rw [runStim_eq] at hrun
    cases hrun
    cases c with
    | env a => exact afterAct_mem_wf (s := { s with stim := rest }) h a
    | reset => exact nil_mem_wf
    | force r v => exact force_mem_wf (s := { s with stim := rest }) h r v
  · exact afterAct_mem_wf (s := { s with now := s.now + 1 }) h _

/-! ### Pointers and absolute positions (R115) -/

/-- The difference of two pointers is that of their positions, as long as these are less than one turn apart. -/
theorem toNat_ptr_sub {p q : Nat} (hle : p ≤ q) (hturn : q < p + 16) :
    (BitVec.ofNat 4 q - BitVec.ofNat 4 p).toNat = q - p := by
  simp only [BitVec.toNat_sub, BitVec.toNat_ofNat]
  omega

/-- The pointer before the one of a position that is not the first. -/
theorem ptr_pred {p : Nat} (hpos : 0 < p) : BitVec.ofNat 4 p - 1 = BitVec.ofNat 4 (p - 1) := by
  obtain ⟨q, rfl⟩ := Nat.exists_eq_succ_of_ne_zero hpos.ne'
  rw [Nat.succ_sub_one, Nat.succ_eq_add_one, BitVec.ofNat_add]
  exact BitVec.add_sub_cancel _ _

/-- A synchroniser samples a position from the one it sampled last up to the pointer's own, whatever the draw; a set
change flag is what leaves room for the older value (R109, R110). -/
theorem samplePtr_position {changed : Bool} {old p : Nat} (hle : old ≤ p) (hchanged : changed = true → old < p)
    (draw : Draw) : ∃ q, old ≤ q ∧ q ≤ p ∧ samplePtr changed draw (BitVec.ofNat 4 p) = gray (BitVec.ofNat 4 q) := by
  unfold samplePtr
  split
  · next hlag =>
    obtain ⟨hset, -⟩ := hlag
    have hlt : old < p := hchanged hset
    exact ⟨p - 1, by omega, by omega, by rw [ptr_pred (by omega)]⟩
  · exact ⟨p, hle, le_rfl, rfl⟩

/-! ### The unread tokens, update by update (R67) -/

theorem length_unread (s : State) : (unread s).length = occupancy s := by
  simp [unread]

/-- The pointer step of a pop takes the head of the unread tokens (R112). -/
theorem unread_eq_cons_consume {s : State} (hpos : 0 < occupancy s) :
    unread s = memRead s s.rptr :: unread (consume s) := by
  have hocc : occupancy s = occupancy (consume s) + 1 := by
    simp only [occupancy, consume_wptr, consume_rptr] at hpos ⊢
    bv_omega
  have hnext (j : Nat) : s.rptr + BitVec.ofNat 4 (j + 1) = (consume s).rptr + BitVec.ofNat 4 j := by
    rw [consume_rptr, BitVec.ofNat_add]
    ac_rfl
  have hhead : s.rptr + BitVec.ofNat 4 0 = s.rptr := BitVec.add_zero _
  simp only [unread, hocc, List.range_succ_eq_map, List.map_cons, List.map_map, Function.comp_def, Nat.succ_eq_add_one,
    hhead, hnext, memRead_consume]

/-- The slots of the unread tokens come before slot WPTR. -/
theorem unread_slot_ne_wptr {s : State} {j : Nat} (hj : j < occupancy s) : s.rptr + BitVec.ofNat 4 j ≠ s.wptr := by
  intro heq
  have hocc : occupancy s = j % 16 := by
    rw [occupancy, ← heq, BitVec.add_comm, BitVec.add_sub_cancel, BitVec.toNat_ofNat]
  omega

/-- ENQ appends its token to the unread ones, unless the pointers would meet (R106). -/
theorem unread_enqueue {s : State} (hroom : occupancy s < 15) (b : Button) :
    unread (enqueue b s) = unread s ++ [tokenOf b] := by
  have hocc : occupancy (enqueue b s) = occupancy s + 1 := by
    simp only [occupancy, enqueue_wptr, enqueue_rptr] at hroom ⊢
    bv_omega
  have hlast : s.rptr + BitVec.ofNat 4 (occupancy s) = s.wptr := by
    rw [occupancy, BitVec.ofNat_toNat, BitVec.setWidth_eq, BitVec.add_comm]
    exact BitVec.sub_add_cancel _ _
  have hkept : ∀ j ∈ List.range (occupancy s),
      memRead (enqueue b s) (s.rptr + BitVec.ofNat 4 j) = memRead s (s.rptr + BitVec.ofNat 4 j) := by
    intro j hj
    rw [memRead_enqueue, if_neg (unread_slot_ne_wptr (List.mem_range.1 hj))]
  rw [unread, hocc, List.range_succ, List.map_append, List.map_singleton, enqueue_rptr, List.map_congr_left hkept,
    hlast, memRead_enqueue, if_pos rfl, unread]

/-! ### The views of the occupancy (R106, R108, R111) -/

section Positions

variable {s : State} {rs1 rs0 r ws1 ws0 w : Nat}

theorem FifoPositions.ordered (h : FifoPositions s rs1 rs0 r ws1 ws0 w) : FifoOrdered s :=
  ⟨rs1, rs0, r, ws1, ws0, w, h⟩

/-- The three modular differences are the differences of the positions: FIFO_DEPTH is less than one turn (R9, R115). -/
theorem FifoPositions.differences (hwf : s.cfg.wf = true) (h : FifoPositions s rs1 rs0 r ws1 ws0 w) :
    countW s = w - rs1 ∧ countR s = ws1 - r ∧ occupancy s = w - r := by
  obtain ⟨hrs, hrs0, hr, hws, hws0, hdepth, hrsync, hrptr, hwsync, hwptr, -⟩ := h
  obtain ⟨⟨-, hturn⟩, -⟩ := (Config.wf_iff s.cfg).1 hwf
  refine ⟨?_, ?_, ?_⟩
  · rw [countW, hwptr, hrsync, bin_gray]
    exact toNat_ptr_sub (by omega) (by omega)
  · rw [countR, hrptr, hwsync, bin_gray]
    exact toNat_ptr_sub (by omega) (by omega)
  · rw [occupancy, hwptr, hrptr]
    exact toNat_ptr_sub (by omega) (by omega)

end Positions

theorem views_bound_occupancy {s : State} (hwf : s.cfg.wf = true) (h : FifoOrdered s) :
    occupancy s ≤ countW s ∧ countR s ≤ occupancy s ∧ countW s ≤ s.cfg.fifoDepth := by
  obtain ⟨rs1, rs0, r, ws1, ws0, w, hpos⟩ := h
  obtain ⟨hcountW, hcountR, hocc⟩ := hpos.differences hwf
  obtain ⟨hrs, hrs0, hr, hws, hws0, hdepth, -⟩ := hpos
  omega

/-- At most FIFO_DEPTH tokens are unread (R73, R108). -/
theorem length_unread_le {s : State} (hwf : s.cfg.wf = true) (h : FifoOrdered s) :
    (unread s).length ≤ s.cfg.fifoDepth := by
  obtain ⟨hproducer, -, hbound⟩ := views_bound_occupancy hwf h
  rw [length_unread]
  exact hproducer.trans hbound

/-! ### What a pop takes (R112) -/

/-- A pop takes the token at RPTR, and only with tokens in the consumer view. -/
theorem fetchToken_eq_some {s : State} {tok : Token} (h : fetchToken s = some tok) :
    0 < countR s ∧ tok = memRead s s.rptr := by
  unfold fetchToken at h
  split at h
  · next hview =>
    cases h
    exact ⟨hview, rfl⟩
  · cases h

/-- The consumer view never runs ahead, so a pop finds an unread token (R111). -/
theorem occupancy_pos_of_fetchToken {s : State} {tok : Token} (hwf : s.cfg.wf = true) (h : FifoOrdered s)
    (hfetch : fetchToken s = some tok) : 0 < occupancy s := by
  obtain ⟨-, hconsumer, -⟩ := views_bound_occupancy hwf h
  obtain ⟨hview, -⟩ := fetchToken_eq_some hfetch
  exact hview.trans_le hconsumer

/-- With unread tokens, slot RPTR has been written (R67). -/
theorem slotWritten_rptr_isSome {s : State} (hwf : s.cfg.wf = true) (h : FifoOrdered s) (hpos : 0 < occupancy s) :
    (slotWritten s.mem s.rptr.toNat).isSome = true := by
  obtain ⟨rs1, rs0, r, ws1, ws0, w, hfifo⟩ := h
  obtain ⟨-, -, hocc⟩ := hfifo.differences hwf
  obtain ⟨-, -, -, -, -, -, -, hrptr, -, -, -, -, hwritten⟩ := hfifo
  rw [hrptr, BitVec.toNat_ofNat]
  exact hwritten r le_rfl (by omega)

/-- A written slot reads as the token written (R66). -/
theorem slotWritten_eq_memRead {s : State} {p : Ptr} (h : (slotWritten s.mem p.toNat).isSome = true) :
    slotWritten s.mem p.toNat = some (memRead s p) := by
  obtain ⟨tok, htok⟩ := Option.isSome_iff_exists.1 h
  rw [memRead, htok, Option.getD_some]

/-! ### The positions, update by update (R106, R109, R110, R112) -/

section Positions

variable {s : State} {rs1 rs0 r ws1 ws0 w : Nat}

/-- The write-pointer synchroniser moves its positions up, none beyond W (R110). -/
theorem FifoPositions.after_syncWptr (h : FifoPositions s rs1 rs0 r ws1 ws0 w) (draw : Draw) :
    ∃ ws0', FifoPositions (syncWptr draw s) rs1 rs0 r ws0 ws0' w := by
  obtain ⟨hrs, hrs0, hr, hws, hws0, hdepth, hrsync, hrptr, hwsync, hwptr, hrchg, hwchg, hwritten⟩ := h
  obtain ⟨q, hfrom, hto, hsample⟩ := samplePtr_position hws0 hwchg draw
  refine ⟨q, hrs, hrs0, hr.trans hws, hfrom, hto, hdepth, hrsync, hrptr, ?wsync, hwptr, hrchg, nofun, hwritten⟩
  case wsync => rw [syncWptr_wsync, sampleWptr, hwptr, hsample, shiftIn, hwsync]

/-- The read-pointer synchroniser moves its positions up, none beyond R (R109). -/
theorem FifoPositions.after_syncRptr (h : FifoPositions s rs1 rs0 r ws1 ws0 w) (draw : Draw) :
    ∃ rs0', FifoPositions (syncRptr draw s) rs0 rs0' r ws1 ws0 w := by
  obtain ⟨hrs, hrs0, hr, hws, hws0, hdepth, hrsync, hrptr, hwsync, hwptr, hrchg, hwchg, hwritten⟩ := h
  obtain ⟨q, hfrom, hto, hsample⟩ := samplePtr_position hrs0 hrchg draw
  have hroom : w ≤ rs0 + s.cfg.fifoDepth := by omega
  refine ⟨q, hfrom, hto, hr, hws, hws0, hroom, ?rsync, hrptr, hwsync, hwptr, nofun, hwchg, hwritten⟩
  case rsync => rw [syncRptr_rsync, sampleRptr, hrptr, hsample, shiftIn, hrsync]

/-- The pointer step of a pop moves R up by one, not beyond the consumer view (R112). -/
theorem FifoPositions.after_consume (h : FifoPositions s rs1 rs0 r ws1 ws0 w) (hview : r < ws1) :
    FifoPositions (consume s) rs1 rs0 (r + 1) ws1 ws0 w := by
  obtain ⟨hrs, hrs0, hr, hws, hws0, hdepth, hrsync, hrptr, hwsync, hwptr, -, hwchg, hwritten⟩ := h
  refine ⟨hrs, hrs0.trans r.le_succ, hview, hws, hws0, hdepth, hrsync, ?rptr, hwsync, hwptr,
    fun _ => Nat.lt_succ_of_le hrs0, hwchg, fun j hj => hwritten j (Nat.le_of_succ_le hj)⟩
  case rptr =>
    rw [consume_rptr, hrptr, BitVec.ofNat_add]
    rfl

/-- ENQ moves W up by one and writes the slot of the old W, with room in the producer view (R106). -/
theorem FifoPositions.after_enqueue (h : FifoPositions s rs1 rs0 r ws1 ws0 w) (hroom : w < rs1 + s.cfg.fifoDepth)
    (b : Button) : FifoPositions (enqueue b s) rs1 rs0 r ws1 ws0 (w + 1) := by
  obtain ⟨hrs, hrs0, hr, hws, hws0, -, hrsync, hrptr, hwsync, hwptr, hrchg, -, hwritten⟩ := h
  refine ⟨hrs, hrs0, hr, hws, hws0.trans w.le_succ, hroom, hrsync, hrptr, hwsync, ?wptr, hrchg,
    fun _ => Nat.lt_succ_of_le hws0, fun j hfrom hto => ?written⟩
  case wptr =>
    rw [enqueue_wptr, hwptr, BitVec.ofNat_add]
    rfl
  case written =>
    rw [enqueue_mem, hwptr, BitVec.toNat_ofNat]
    by_cases hslot : j % 16 = w % 16
    · rw [hslot, slotWritten_slotWrite_same, Option.isSome_some]
    · have hold : j < w := Nat.lt_of_le_of_ne (Nat.le_of_lt_succ hto) fun heq => hslot (by rw [heq])
      rw [slotWritten_slotWrite_other _ _ _ _ hslot]
      exact hwritten j hfrom hold

/-- A clk_ev edge in reset moves no pointer; it can clear RCHG (R109, R230). -/
theorem FifoPositions.after_evResetEdge (h : FifoPositions s rs1 rs0 r ws1 ws0 w) :
    FifoPositions (evResetEdge s) rs1 rs0 r ws1 ws0 w := by
  obtain ⟨hrs, hrs0, hr, hws, hws0, hdepth, hrsync, hrptr, hwsync, hwptr, hrchg, hwchg, hwritten⟩ := h
  rw [evResetEdge_eq]
  exact ⟨hrs, hrs0, hr, hws, hws0, hdepth, hrsync, hrptr, hwsync, hwptr,
    fun hset => hrchg ((Bool.and_eq_true_iff.1 hset).2), hwchg, hwritten⟩

/-- A clk_core edge in reset moves no pointer; it can clear WCHG (R110, R230). -/
theorem FifoPositions.after_coreResetEdge (h : FifoPositions s rs1 rs0 r ws1 ws0 w) :
    FifoPositions (coreResetEdge s) rs1 rs0 r ws1 ws0 w := by
  obtain ⟨hrs, hrs0, hr, hws, hws0, hdepth, hrsync, hrptr, hwsync, hwptr, hrchg, hwchg, hwritten⟩ := h
  rw [coreResetEdge_eq]
  exact ⟨hrs, hrs0, hr, hws, hws0, hdepth, hrsync, hrptr, hwsync, hwptr, hrchg,
    fun hset => hwchg ((Bool.and_eq_true_iff.1 hset).2), hwritten⟩

end Positions

/-! ### The FIFO over one edge of either clock -/

/-- The FIFO after a clk_core edge is that of the pop, if there is one, and the synchroniser; the other registers of the
edge are none of the FIFO's (R218). -/
theorem coreNext_frame (tick : Bool) (draw : Draw) (s : State) :
    coreNext tick draw s = { syncWptr draw (if (fetchToken s).isSome then consume s else s) with
      ctrl := (coreNext tick draw s).ctrl
      wph := (coreNext tick draw s).wph
      pph := (coreNext tick draw s).pph
      dreg := (coreNext tick draw s).dreg
      s1v := (coreNext tick draw s).s1v
      s2v := (coreNext tick draw s).s2v } := by
  unfold coreNext
  cases fetchToken s with
  | none => rfl
  | some tok => rfl

theorem coreNext_keeps_ordered {s : State} (hwf : s.cfg.wf = true) (h : FifoOrdered s) (tick : Bool) (draw : Draw) :
    FifoOrdered (coreNext tick draw s) := by
  obtain ⟨rs1, rs0, r, ws1, ws0, w, hpos⟩ := h
  rw [coreNext_frame]
  cases hfetch : fetchToken s with
  | none =>
    obtain ⟨ws0', hnext⟩ := hpos.after_syncWptr draw
    exact hnext.ordered
  | some tok =>
    obtain ⟨hview, -⟩ := fetchToken_eq_some hfetch
    obtain ⟨-, hcountR, -⟩ := hpos.differences hwf
    obtain ⟨ws0', hnext⟩ := (hpos.after_consume (by omega)).after_syncWptr draw
    exact hnext.ordered

/-- The popped token, if there is one, was the head of the unread ones (R112, R113). -/
theorem unread_coreNext {s : State} (hwf : s.cfg.wf = true) (h : FifoOrdered s) (tick : Bool) (draw : Draw) :
    (fetchToken s).toList ++ unread (coreNext tick draw s) = unread s := by
  rw [coreNext_frame]
  cases hfetch : fetchToken s with
  | none => rfl
  | some tok =>
    obtain ⟨-, rfl⟩ := fetchToken_eq_some hfetch
    exact (unread_eq_cons_consume (occupancy_pos_of_fetchToken hwf h hfetch)).symm

theorem evStep_keeps_ordered {s : State} (hwf : s.cfg.wf = true) (h : FifoOrdered s) (draw : Draw) :
    FifoOrdered (evStep draw s) := by
  obtain ⟨rs1, rs0, r, ws1, ws0, w, hpos⟩ := h
  obtain ⟨hcountW, -, -⟩ := hpos.differences hwf
  obtain ⟨rs0', hsync⟩ := hpos.after_syncRptr draw
  obtain ⟨hrs, -⟩ := hpos
  rw [evStep_eq]
  cases haccepted : accepted s with
  | none => exact hsync.ordered
  | some b =>
    obtain ⟨-, hroom⟩ := accepted_eq_some haccepted
    exact (hsync.after_enqueue (by rw [syncRptr_cfg]; omega) b).ordered

/-- The accepted token, if there is one, becomes the last of the unread ones (R106, R107). -/
theorem unread_evStep {s : State} (hwf : s.cfg.wf = true) (h : FifoOrdered s) (draw : Draw) :
    unread (evStep draw s) = unread s ++ ((accepted s).map tokenOf).toList := by
  rw [evStep_eq]
  cases haccepted : accepted s with
  | none => exact (List.append_nil _).symm
  | some b =>
    obtain ⟨-, hroom⟩ := accepted_eq_some haccepted
    obtain ⟨hproducer, -, -⟩ := views_bound_occupancy hwf h
    obtain ⟨⟨-, hturn⟩, -⟩ := (Config.wf_iff s.cfg).1 hwf
    exact unread_enqueue (s := syncRptr draw s) (show occupancy s < 15 by omega) b

/-! ### The FIFO over an act and over a run without a reset (R73) -/

/-- An act that does not drive rst_n keeps the FIFO ordered. -/
theorem afterAct_keeps_ordered {a : EnvAct} {s : State} (hwf : s.cfg.wf = true) (h : FifoOrdered s)
    (hquiet : drivesReset a = false) : FifoOrdered (afterAct a s) := by
  cases a with
  | pin b level =>
    rw [afterAct_pin, drivePin]
    split
    · exact h
    · exact h
  | rstN level => cases hquiet
  | evEdge draw =>
    rw [afterAct_evEdge, evEdge]
    split
    · obtain ⟨rs1, rs0, r, ws1, ws0, w, hpos⟩ := h
      exact hpos.after_evResetEdge.ordered
    · exact evStep_keeps_ordered hwf h draw
  | coreEdge tick draw =>
    rw [afterAct_coreEdge]
    split
    · obtain ⟨rs1, rs0, r, ws1, ws0, w, hpos⟩ := h
      exact hpos.after_coreResetEdge.ordered
    · exact coreNext_keeps_ordered hwf h tick draw

/-- An act that does not drive rst_n conserves the tokens: what it delivers leaves at the head of the unread ones, what
it writes joins at their end. -/
theorem unread_afterAct {a : EnvAct} {s : State} (hwf : s.cfg.wf = true) (h : FifoOrdered s)
    (hquiet : drivesReset a = false) :
    deliveredAt a s ++ unread (afterAct a s) = unread s ++ writtenAt a s := by
  cases a with
  | pin b level =>
    rw [deliveredAt, writtenAt, List.append_nil, List.nil_append, afterAct_pin, drivePin]
    split
    · rfl
    · rfl
  | rstN level => cases hquiet
  | evEdge draw =>
    rw [deliveredAt, writtenAt, List.nil_append, afterAct_evEdge, evEdge]
    split
    · rw [evResetEdge_eq, List.append_nil]
      rfl
    · exact unread_evStep hwf h draw
  | coreEdge tick draw =>
    rw [deliveredAt, writtenAt, List.append_nil, afterAct_coreEdge]
    split
    · rw [coreResetEdge_eq]
      rfl
    · exact unread_coreNext hwf h tick draw

/-- A run without a reset conserves the tokens and keeps the build and the order of the positions. -/
theorem afterActs_conserves {acts : List EnvAct} {s : State} (hwf : s.cfg.wf = true) (h : FifoOrdered s)
    (hquiet : (acts.all fun a => !drivesReset a) = true) :
    (afterActs acts s).cfg = s.cfg ∧ FifoOrdered (afterActs acts s) ∧
      deliveredIn acts s ++ unread (afterActs acts s) = unread s ++ writtenIn acts s := by
  induction acts generalizing s with
  | nil => exact ⟨rfl, h, (List.append_nil _).symm⟩
  | cons a rest ih =>
    rw [List.all_cons, Bool.and_eq_true, Bool.not_eq_true'] at hquiet
    obtain ⟨hact, hrest⟩ := hquiet
    have hcfg : (afterAct a s).cfg = s.cfg := afterAct_cfg a s
    obtain ⟨hcfgEnd, hordered, hconserved⟩ := ih (hcfg ▸ hwf) (afterAct_keeps_ordered hwf h hact) hrest
    refine ⟨hcfgEnd.trans hcfg, hordered, ?_⟩
    calc deliveredIn (a :: rest) s ++ unread (afterActs rest (afterAct a s))
        = deliveredAt a s ++ (deliveredIn rest (afterAct a s) ++ unread (afterActs rest (afterAct a s))) :=
          List.append_assoc _ _ _
      _ = deliveredAt a s ++ unread (afterAct a s) ++ writtenIn rest (afterAct a s) := by
          rw [hconserved, List.append_assoc]
      _ = unread s ++ writtenIn (a :: rest) s := by
          rw [unread_afterAct hwf h hact, List.append_assoc, writtenIn]

end Sys2Proof.Machine

namespace Sys2Proof.Proofs

open Sys2Proof.Machine

/-- Settles O28, by induction on the acts: each conserves the tokens and keeps the positions ordered. -/
theorem fifoDeliversEachWrittenTokenOnceInOrder : Obligations.FifoDeliversEachWrittenTokenOnceInOrder := by
  intro acts s hwf hordered hquiet
  obtain ⟨hcfg, horderedEnd, hconserved⟩ := afterActs_conserves hwf hordered hquiet
  have hbound := length_unread_le (hcfg ▸ hwf) horderedEnd
  exact ⟨hconserved, hcfg ▸ hbound⟩

/-- Settles O25, from the modular differences of the positions. -/
theorem bothViewsBoundTheTrueOccupancy : Obligations.BothViewsBoundTheTrueOccupancy := by
  intro s hwf hordered
  obtain ⟨hproducer, hconsumer, hbound⟩ := views_bound_occupancy hwf hordered
  exact ⟨hproducer, hconsumer, hbound, fun _ _ _ _ _ _ hpos => hpos.differences hwf⟩

/-- Settles O27: the consumer view is not ahead of the unread tokens, whose slots have been written. -/
theorem popReadsOnlyWrittenSlots : Obligations.PopReadsOnlyWrittenSlots := by
  intro s tok hwf hordered hfetch
  have hpos : 0 < occupancy s := occupancy_pos_of_fetchToken hwf hordered hfetch
  obtain ⟨-, rfl⟩ := fetchToken_eq_some hfetch
  refine ⟨slotWritten_eq_memRead (slotWritten_rptr_isSome hwf hordered hpos), ?_⟩
  rw [unread_eq_cons_consume hpos]
  exact List.cons_ne_nil _ _

/-- Settles O43, by the cases of what a step can run, upsets included. -/
theorem everyStepKeepsStorageCanonical : Obligations.EveryStepKeepsStorageCanonical :=
  fun _ _ => step_keeps_mem_wf

end Sys2Proof.Proofs
end

section
/-!
PROOFS. The encodings of the block (spec/30_encoding.md): the two codes and their tables (R80, R84 to R86), the path of
an encoded operation through a step (R112, R130, R150), and the stimulus PRESS (R91).
-/

namespace Sys2Proof

/-! ### The two codes (R84, R86) -/

theorem decodeEvt2_encode {i : Instr} (hformat : formatOf i = .evt2) : decodeEvt2 (BitVec.ofNat 2 (encode i)) = i := by
  cases i with
  | mode | strength | power | rsvd => rfl
  | tickOff | tickNormal | tickPulsed | tickWaveform | tickUndef => cases hformat

theorem decodeTicksel3_encode {i : Instr} (hformat : formatOf i = .ticksel3) :
    decodeTicksel3 (BitVec.ofNat 3 (encode i)) = i := by
  cases i with
  | mode | strength | power | rsvd => cases hformat
  | tickOff modeBits =>
    have word : ∀ m : BitVec 2, decodeTicksel3 (BitVec.ofNat 3 m.toNat) = .tickOff m := by decide
    exact word modeBits
  | tickNormal | tickPulsed | tickWaveform | tickUndef => rfl

theorem encode_decodeEvt2 (t : Token) : formatOf (decodeEvt2 t) = .evt2 ∧ encode (decodeEvt2 t) = t.toNat := by
  revert t
  decide

theorem encode_decodeTicksel3 (sel : TickSel) :
    formatOf (decodeTicksel3 sel) = .ticksel3 ∧ encode (decodeTicksel3 sel) = sel.toNat := by
  revert sel
  decide

/-- The encoding of an operation fits the width of its format (R80). -/
theorem encode_lt (i : Instr) : encode i < 2 ^ (formatOf i).width := by
  cases i with
  | tickOff modeBits =>
    obtain ⟨fits, -⟩ := Laws.EncodeFits.tickOff modeBits
    exact fits
  | _ => decide

theorem decodeWord_encode (i : Instr) : decodeWord (formatOf i) (encode i) = .ok i := by
  unfold decodeWord
  rw [if_pos (encode_lt i)]
  cases hformat : formatOf i with
  | evt2 => exact congrArg Except.ok (decodeEvt2_encode hformat)
  | ticksel3 => exact congrArg Except.ok (decodeTicksel3_encode hformat)

end Sys2Proof

namespace Sys2Proof.Machine

/-! ### What a clk_core edge runs (R112, R130, R150) -/

/-- A clk_core edge that waits as the next command is what the step of a well-formed build runs. -/
theorem step_of_coreEdge {s : State} {tick : Bool} {draw : Draw} {rest : List Stim} (hwf : s.cfg.wf = true)
    (hactive : coreActive s) (hstim : s.stim = .env (.coreEdge tick draw) :: rest) :
    step s = coreStep tick draw { s with stim := rest } := by
  have hrest : coreInReset { s with stim := rest } = false := hactive
  rw [step_of_wf hwf, advance_of_stim_cons hstim, runStim, runEnv, coreEdge, hrest]
  rfl

theorem coreStep_of_token {s : State} {tok : Token} (hfetch : fetchToken s = some tok) (draw : Draw) :
    coreStep false draw s = exec (decodeEvt2 tok) (consume (capture none (clockCore draw s))) := by
  rw [exec_token_coreNext hfetch, coreStep_eq]

/-- With nothing to pop, the second part of the edge leaves what the tick made. -/
theorem coreStep_of_tick {s : State} (hfetch : fetchToken s = none) (draw : Draw) :
    coreStep true draw s = exec (decodeTicksel3 (tickSelOf (readCtrl s))) (clockCore draw s) := by
  rw [coreStep, hfetch, fetchTick, if_pos rfl, runTick, exec_tick, andThen_next, runToken]

/-! ### Where an encoded operation is placed (log 18) -/

theorem withFetchWord_evt2 {i : Instr} (hformat : formatOf i = .evt2) (s : State) :
    s.withFetchWord (formatOf i).width (encode i) = placeToken (BitVec.ofNat 2 (encode i)) s := by
  rw [hformat]
  rfl

theorem withFetchWord_ticksel3 {i : Instr} (hformat : formatOf i = .ticksel3) (s : State) :
    s.withFetchWord (formatOf i).width (encode i) = placeTick (BitVec.ofNat 3 (encode i)) s := by
  rw [hformat]
  rfl

/-- A placed token is one pointer step inside the consumer view, and its slot has been written. -/
theorem fetchToken_placeToken (t : Token) (s : State) : fetchToken (placeToken t s) = some t := by
  have hview : countR (placeToken t s) = 1 := by
    have hcount : countR (placeToken t s) = (bin (gray (s.rptr + 1)) - s.rptr).toNat := rfl
    rw [hcount, bin_gray, BitVec.add_comm, BitVec.add_sub_cancel]
    rfl
  have hslot : memRead (placeToken t s) (placeToken t s).rptr =
      (slotWritten (slotWrite s.mem s.rptr.toNat t) s.rptr.toNat).getD (Config.unwrittenSlot s.epoch s.rptr) := rfl
  rw [fetchToken, hview, if_pos Nat.one_pos, hslot, slotWritten_slotWrite_same, Option.getD_some]

/-- A placed selection comes with an empty consumer view. -/
theorem fetchToken_placeTick (sel : TickSel) (s : State) : fetchToken (placeTick sel s) = none := by
  have hview : countR (placeTick sel s) = 0 := by
    have hcount : countR (placeTick sel s) = (bin (gray s.rptr) - s.rptr).toNat := rfl
    rw [hcount, bin_gray, BitVec.sub_self]
    rfl
  rw [fetchToken, hview, if_neg (lt_irrefl 0)]

/-- Hardwiring PWR changes nothing where PWR is 1 already (R25). -/
theorem hardwirePwr_eq_self {c : Config} {v : Ctrl} (hpwr : c.hasPower = false → ctrlPwr v = 1#1) :
    hardwirePwr c v = v := by
  unfold hardwirePwr
  split
  · rfl
  · next hno =>
    have hset : ∀ w : Ctrl, ctrlPwr w = 1#1 → w ||| 0b10000#5 = w := by decide
    exact hset v (hpwr (eq_false_of_ne_true hno))

/-- CTRL is the selection above the strength code (R80, R83). -/
theorem fields_append (sel : TickSel) (str : BitVec 2) :
    tickSelOf (sel ++ str) = sel ∧ ctrlStr (sel ++ str) = str ∧ ctrlPwr (sel ++ str) = sel.extractLsb' 2 1 := by
  revert sel str
  decide

/-- A placed selection stands in CTRL beside the strength, if the hardwired PWR bit of a build without power is its
own (R25). -/
theorem readCtrl_placeTick {sel : TickSel} {s : State} (htop : s.cfg.hasPower = false → sel.extractLsb' 2 1 = 1#1) :
    readCtrl (placeTick sel s) = sel ++ ctrlStr (readCtrl s) := by
  obtain ⟨-, -, hpwr⟩ := fields_append sel (ctrlStr (readCtrl s))
  calc readCtrl (placeTick sel s)
      = hardwirePwr s.cfg (sel ++ ctrlStr (readCtrl s)) := hardwirePwr_idem s.cfg _
    _ = sel ++ ctrlStr (readCtrl s) := hardwirePwr_eq_self fun hno => hpwr.trans (htop hno)

/-- On a build without power every selection but TICK_OFF has its PWR bit set (R25, R86). -/
theorem topBit_of_encode {i : Instr} (hformat : formatOf i = .ticksel3) (hon : ∀ modeBits, i ≠ .tickOff modeBits) :
    (BitVec.ofNat 3 (encode i)).extractLsb' 2 1 = 0b1#1 := by
  have hone : ∀ p : BitVec 1, p ≠ 0b0#1 → p = 0b1#1 := by decide
  apply hone
  intro hzero
  have hoff := (decodeTicksel3_eq_tickOff _ _).2 ⟨hzero, rfl⟩
  rw [decodeTicksel3_encode hformat] at hoff
  exact hon _ hoff

/-- A placed token is fetched and dispatched by the next step. -/
theorem step_placeToken {s : State} (hwf : s.cfg.wf = true) (t : Token) :
    step (placeToken t s) =
      exec (decodeEvt2 t) (consume (capture none (clockCore .current { placeToken t s with stim := s.stim }))) :=
  have hfetch : fetchToken { placeToken t s with stim := s.stim } = some t := fetchToken_placeToken t s
  calc step (placeToken t s)
      = coreStep false .current { placeToken t s with stim := s.stim } :=
        step_of_coreEdge (s := placeToken t s) hwf rfl rfl
    _ = _ := coreStep_of_token hfetch .current

/-- A placed selection is decoded from CTRL and run by the next step. -/
theorem step_placeTick {s : State} (hwf : s.cfg.wf = true) (sel : TickSel) :
    step (placeTick sel s) =
      exec (decodeTicksel3 (tickSelOf (readCtrl (placeTick sel s))))
        (clockCore .current { placeTick sel s with stim := s.stim }) :=
  have hfetch : fetchToken { placeTick sel s with stim := s.stim } = none := fetchToken_placeTick sel s
  calc step (placeTick sel s)
      = coreStep true .current { placeTick sel s with stim := s.stim } :=
        step_of_coreEdge (s := placeTick sel s) hwf rfl rfl
    _ = _ := coreStep_of_tick hfetch .current

/-! ### The capture chain of one button (R101 to R104) -/

/-- The pin of a button and the registers that capture it (R35, R36, R43). -/
structure CaptureChain where
  pin : Bool
  sync : Sync Bool
  prev : Bool
  pend : Bool

/-- Released and at rest. -/
def CaptureChain.idle : CaptureChain := ⟨true, ⟨true, true⟩, true, false⟩

/-- A chain after an edge at which its pending edge, if there is one, is the one the arbiter takes. -/
def CaptureChain.next (c : CaptureChain) : CaptureChain :=
  ⟨c.pin, shiftIn c.sync c.pin, c.sync.stage1, c.prev && !c.sync.stage1⟩

/-- The capture chain of a button in a state. -/
def captureChain (s : State) (b : Button) : CaptureChain :=
  ⟨perButton s.btnN b, perButton s.bsync b, perButton s.bprev b, perButton s.pend b⟩

/-- Button b is present and has the chain c; every other present button is idle. -/
def OnlyBusy (b : Button) (c : CaptureChain) (s : State) : Prop :=
  present s.cfg b = true ∧
    ∀ b', present s.cfg b' = true → captureChain s b' = if b' = b then c else CaptureChain.idle

theorem captureIdle_iff (s : State) :
    captureIdle s ↔ ∀ b, present s.cfg b = true → captureChain s b = CaptureChain.idle := by
  simp only [captureIdle, captureChain, CaptureChain.idle, CaptureChain.mk.injEq]

theorem onlyBusy_idle_iff {s : State} {b : Button} (hpresent : present s.cfg b = true) :
    OnlyBusy b CaptureChain.idle s ↔ captureIdle s := by
  simp only [OnlyBusy, hpresent, ite_self, true_and, captureIdle_iff]

theorem OnlyBusy.chain_eq {s : State} {b : Button} {c : CaptureChain} (h : OnlyBusy b c s) : captureChain s b = c := by
  rw [h.2 b h.1, if_pos rfl]

theorem OnlyBusy.pend_eq {s : State} {b : Button} {c : CaptureChain} (h : OnlyBusy b c s) :
    perButton s.pend b = c.pend :=
  congrArg CaptureChain.pend h.chain_eq

/-- Only the busy button can wait for the arbiter. -/
theorem OnlyBusy.waiting_eq {s : State} {b : Button} {c : CaptureChain} (h : OnlyBusy b c s) (b' : Button) :
    waiting s b' = (decide (b' = b) && c.pend) := by
  unfold waiting
  cases hpresent : present s.cfg b' with
  | false =>
    have hne : b' ≠ b := fun heq => by rw [heq, h.1] at hpresent; cases hpresent
    simp [hne]
  | true =>
    have hpend : perButton s.pend b' = (if b' = b then c else CaptureChain.idle).pend :=
      congrArg CaptureChain.pend (h.2 b' hpresent)
    rw [hpend, Bool.true_and]
    by_cases heq : b' = b
    · simp [heq]
    · simp [heq, CaptureChain.idle]

/-- With one button busy, the arbiter takes its pending edge at once (R105). -/
theorem OnlyBusy.arbiter_eq {s : State} {b : Button} {c : CaptureChain} (h : OnlyBusy b c s) :
    arbiter s = if c.pend then some b else none := by
  simp only [arbiter, h.waiting_eq]
  cases c.pend with
  | false => simp
  | true => cases b <;> rfl

/-- The capture chain of a present button over an edge, its pending edge being taken (R101 to R103). -/
theorem captureChain_evStep {s : State} {b : Button} (hpresent : present s.cfg b = true)
    (htaken : perButton s.pend b = true → arbiter s = some b) (draw : Draw) :
    captureChain (evStep draw s) b = (captureChain s b).next := by
  have hpend : nextPend s b = (perButton s.bprev b && !(perButton s.bsync b).stage1) := by
    have hclear : (perButton s.pend b && decide (arbiter s ≠ some b)) = false := by simpa using htaken
    simp only [nextPend, fall, hpresent, if_true, hclear, Bool.false_or, Bool.true_and]
  have hsync : nextBsync s b = shiftIn (perButton s.bsync b) (perButton s.btnN b) := if_pos hpresent
  have hprev : nextBprev s b = (perButton s.bsync b).stage1 := if_pos hpresent
  rw [evStep_frame]
  simp only [captureChain, CaptureChain.next, perButton_forButtons, hpend, hsync, hprev]

/-! ### A clk_ev edge out of reset (R217) -/

theorem evEdge_of_active {s : State} (hactive : evActive s) (draw : Draw) : evEdge draw s = evStep draw s := by
  rw [evEdge, show evInReset s = false from hactive]
  rfl

/-- A clk_ev edge moves no reset and no register of the other domain. -/
theorem evEdge_keeps {s : State} (hactive : evActive s) (draw : Draw) :
    evActive (evEdge draw s) ∧ readCtrl (evEdge draw s) = readCtrl s ∧ (evEdge draw s).rptr = s.rptr := by
  rw [evEdge_of_active hactive, evStep_frame]
  exact ⟨hactive, rfl, rfl⟩

/-- One busy button stays the only one; its chain moves on. -/
theorem OnlyBusy.after_evEdge {s : State} {b : Button} {c : CaptureChain} (hactive : evActive s) (h : OnlyBusy b c s)
    (draw : Draw) : OnlyBusy b c.next (evEdge draw s) := by
  rw [evEdge_of_active hactive, OnlyBusy, evStep_cfg]
  refine ⟨h.1, fun b' hpresent => ?_⟩
  have hchain : captureChain s b' = if b' = b then c else CaptureChain.idle := h.2 b' hpresent
  have htaken : perButton s.pend b' = true → arbiter s = some b' := by
    intro hpend
    have hwaiting := h.waiting_eq b'
    rw [waiting, hpresent, hpend, Bool.true_and, eq_comm, Bool.and_eq_true, decide_eq_true_eq] at hwaiting
    obtain ⟨rfl, hbusy⟩ := hwaiting
    rw [h.arbiter_eq, if_pos hbusy]
  rw [captureChain_evStep hpresent htaken, hchain]
  split
  · rfl
  · rfl

/-- Driving the pin of the busy button changes its pin alone (R43). -/
theorem OnlyBusy.after_drivePin {s : State} {b : Button} {c : CaptureChain} (h : OnlyBusy b c s) (level : Bool) :
    OnlyBusy b { c with pin := level } (drivePin b level s) := by
  rw [OnlyBusy, drivePin_cfg]
  refine ⟨h.1, fun b' hpresent => ?_⟩
  have hchain : captureChain s b' = if b' = b then c else CaptureChain.idle := h.2 b' hpresent
  rw [drivePin, if_pos h.1]
  by_cases heq : b' = b
  · rw [if_pos heq] at hchain ⊢
    subst heq hchain
    simp [captureChain]
  · rw [if_neg heq] at hchain ⊢
    rw [← hchain]
    simp [captureChain, heq]

theorem drivePin_keeps {s : State} (b : Button) (level : Bool) :
    (evActive s → evActive (drivePin b level s)) ∧ readCtrl (drivePin b level s) = readCtrl s ∧
      (drivePin b level s).rptr = s.rptr := by
  unfold drivePin
  split
  · exact ⟨id, rfl, rfl⟩
  · exact ⟨id, rfl, rfl⟩

/-- A current draw samples the pointer itself (R109, R110). -/
theorem samplePtr_current (changed : Bool) (p : Ptr) : samplePtr changed .current p = gray p :=
  if_neg fun ⟨_, hdraw⟩ => nomatch hdraw

theorem evStep_rsync (draw : Draw) (s : State) : (evStep draw s).rsync = shiftIn s.rsync (sampleRptr draw s) := by
  rw [evStep_eq, captureButtons_rsync]
  cases accepted s with
  | none => rfl
  | some b => rfl

/-- Two current draws bring the read pointer to the last stage of its synchroniser (R109). -/
theorem rsync_stage1_two_edges {s : State} (hactive : evActive s) :
    (evEdge .current (evEdge .current s)).rsync.stage1 = gray s.rptr := by
  rw [evEdge_of_active (evEdge_keeps hactive .current).1, evEdge_of_active hactive, evStep_rsync, shiftIn_stage1,
    evStep_rsync, shiftIn_stage0, sampleRptr, samplePtr_current]

/-! ### The write side of the FIFO over an edge (R106, R107) -/

/-- Nothing has been written: WPTR is where it was and every slot reads as before. -/
def FifoKept (s t : State) : Prop := t.wptr = s.wptr ∧ SameMem s t

theorem FifoKept.trans {s t u : State} (hst : FifoKept s t) (htu : FifoKept t u) : FifoKept s u := by
  obtain ⟨hptr, hmem⟩ := hst
  obtain ⟨hptr', hmem'⟩ := htu
  exact ⟨hptr'.trans hptr, fun p => (hmem' p).trans (hmem p)⟩

theorem fifoKept_drivePin (b : Button) (level : Bool) (s : State) : FifoKept s (drivePin b level s) := by
  unfold drivePin
  split
  · exact ⟨rfl, fun _ => rfl⟩
  · exact ⟨rfl, fun _ => rfl⟩

theorem fifoKept_evEdge {s : State} (hactive : evActive s) (hnone : accepted s = none) (draw : Draw) :
    FifoKept s (evEdge draw s) := by
  rw [evEdge_of_active hactive, evStep_eq, hnone]
  exact ⟨rfl, fun _ => rfl⟩

/-- An accepted event is written into slot WPTR and nowhere else (R106). -/
theorem evEdge_writes {s : State} {b : Button} (hactive : evActive s) (haccepted : accepted s = some b)
    (draw : Draw) :
    (evEdge draw s).wptr = s.wptr + 1 ∧
      ∀ p : Ptr, memRead (evEdge draw s) p = if p = s.wptr then tokenOf b else memRead s p := by
  rw [evEdge_of_active hactive, evStep_eq, haccepted]
  exact ⟨rfl, fun p => memRead_enqueue b (syncRptr draw s) p⟩

/-- A pending edge of the only busy button is accepted exactly if the producer view has room (R106, R107). -/
theorem OnlyBusy.accepted_eq {s : State} {b : Button} {c : CaptureChain} (h : OnlyBusy b c s) :
    accepted s = if c.pend = true ∧ countW s < s.cfg.fifoDepth then some b else none := by
  rw [accepted, h.arbiter_eq]
  cases c.pend with
  | false => simp
  | true => simp

/-! ### A series of edges at which nothing waits -/

/-- Over edges at which the only busy button has nothing pending, its chain moves on, and the write side of
the FIFO and CTRL stay. -/
theorem OnlyBusy.after_quiet_edges {b : Button} {draw : Draw} (n : Nat) {c : CaptureChain} {s : State}
    (hactive : evActive s) (h : OnlyBusy b c s) (hquiet : ∀ k < n, (CaptureChain.next^[k] c).pend = false) :
    OnlyBusy b (CaptureChain.next^[n] c) ((evEdge draw)^[n] s) ∧ evActive ((evEdge draw)^[n] s) ∧
      FifoKept s ((evEdge draw)^[n] s) ∧ readCtrl ((evEdge draw)^[n] s) = readCtrl s := by
  induction n generalizing c s with
  | zero => exact ⟨h, hactive, ⟨rfl, fun _ => rfl⟩, rfl⟩
  | succ n ih =>
    obtain ⟨hactive', hctrl, -⟩ := evEdge_keeps hactive draw
    have hnone : accepted s = none := by
      rw [h.accepted_eq, if_neg]
      rintro ⟨hpend, -⟩
      rw [show c.pend = false from hquiet 0 n.succ_pos] at hpend
      cases hpend
    obtain ⟨hbusy, hactiveEnd, hkept, hctrlEnd⟩ :=
      ih hactive' (h.after_evEdge hactive draw) fun k hk => hquiet (k + 1) (Nat.succ_lt_succ hk)
    exact ⟨hbusy, hactiveEnd, (fifoKept_evEdge hactive hnone draw).trans hkept, hctrlEnd.trans hctrl⟩

/-! ### PRESS (R91) -/

/-- The chain of a button pressed from rest: its falling edge is latched at the third edge. -/
def CaptureChain.pressed : CaptureChain := { CaptureChain.idle with pin := false }

/-- The chain at the third edge of a press: held down, the falling edge pending. -/
def CaptureChain.latched : CaptureChain := ⟨false, ⟨false, false⟩, false, true⟩

/-- The chain of a button just released, its event gone. -/
def CaptureChain.released : CaptureChain := ⟨true, ⟨false, false⟩, false, false⟩

theorem pressed_three_edges :
    CaptureChain.next^[3] CaptureChain.pressed = CaptureChain.latched ∧
      ∀ k < 3, (CaptureChain.next^[k] CaptureChain.pressed).pend = false :=
  ⟨rfl, by decide⟩

theorem released_three_edges :
    CaptureChain.next^[3] CaptureChain.released = CaptureChain.idle ∧
      ∀ k < 3, (CaptureChain.next^[k] CaptureChain.released).pend = false :=
  ⟨rfl, by decide⟩

/-- The fourth edge takes the pending event; then the pin rises. -/
theorem latched_edge_released : { CaptureChain.latched.next with pin := true } = CaptureChain.released := rfl

/-- Three edges into a press from an idle chain, the falling edge is pending and the FIFO is as it was; the producer
view then shows the true occupancy, so the next edge accepts the event exactly if there is room (R106, R108). -/
theorem press_third_edge {s : State} {b : Button} (hactive : evActive s) (hpresent : present s.cfg b = true)
    (hidle : captureIdle s) {third : State} (hthird : third = (evEdge .current)^[3] (drivePin b false s)) :
    OnlyBusy b CaptureChain.latched third ∧ evActive third ∧ FifoKept s third ∧ readCtrl third = readCtrl s ∧
      accepted third = if occupancy s < s.cfg.fifoDepth then some b else none := by
  obtain ⟨hpressActive, hpressCtrl, hpressRptr⟩ := drivePin_keeps (s := s) b false
  replace hpressActive := hpressActive hactive
  have hpressed : OnlyBusy b CaptureChain.pressed (drivePin b false s) :=
    ((onlyBusy_idle_iff hpresent).2 hidle).after_drivePin false
  obtain ⟨hfirstActive, -, hfirstRptr⟩ := evEdge_keeps hpressActive .current
  obtain ⟨hchain, hquiet⟩ := pressed_three_edges
  have hedges := hpressed.after_quiet_edges (draw := .current) 3 hpressActive hquiet
  rw [hchain, ← hthird] at hedges
  obtain ⟨hlatched, hthirdActive, hkept, hctrl⟩ := hedges
  obtain ⟨hwptr, hmem⟩ := (fifoKept_drivePin b false s).trans hkept
  replace hthird : third = evEdge .current (evEdge .current (evEdge .current (drivePin b false s))) := hthird
  have hcfg : third.cfg = s.cfg := by rw [hthird, evEdge_cfg, evEdge_cfg, evEdge_cfg, drivePin_cfg]
  have hrsync : third.rsync.stage1 = gray s.rptr := by
    rw [hthird, rsync_stage1_two_edges hfirstActive, hfirstRptr, hpressRptr]
  have hcount : countW third = occupancy s := by rw [countW, hrsync, bin_gray, hwptr, occupancy]
  refine ⟨hlatched, hthirdActive, ⟨hwptr, hmem⟩, hctrl.trans hpressCtrl, ?_⟩
  rw [hlatched.accepted_eq, hcount, hcfg]
  simp only [CaptureChain.latched, true_and]

end Sys2Proof.Machine

namespace Sys2Proof.Proofs

open Sys2Proof.Machine

/-- Settles O55: a placed token is in the consumer view with its slot written, a placed selection is CTRL[4:2] beside an
empty view, and the next step runs the edge that was placed with them. -/
theorem encodedOperationIsFetchedDecodedAndRun : Obligations.EncodedOperationIsFetchedDecodedAndRun := by
  intro i s hwf hoff placed
  refine ⟨fun hformat => ?token, fun hformat => ?tick⟩
  case token =>
    have hplaced : placed = placeToken (BitVec.ofNat 2 (encode i)) s := withFetchWord_evt2 hformat s
    rw [hplaced, step_placeToken hwf, decodeEvt2_encode hformat]
    exact ⟨fetchToken_placeToken _ s, rfl⟩
  case tick =>
    have hplaced : placed = placeTick (BitVec.ofNat 3 (encode i)) s := withFetchWord_ticksel3 hformat s
    have hctrl := readCtrl_placeTick (s := s) fun hno => topBit_of_encode hformat (hoff hno)
    obtain ⟨hsel, hstr, -⟩ := fields_append (BitVec.ofNat 3 (encode i)) (ctrlStr (readCtrl s))
    rw [hplaced, step_placeTick hwf, hctrl, hsel, decodeTicksel3_encode hformat]
    exact ⟨rfl, hstr, rfl⟩

/-- Settles O21: the press latches its falling edge at the third edge, the fourth finds the true occupancy in the
producer view, and three edges after the release bring the chain back to rest. -/
theorem pressWritesOneTokenAtTheFourthEdge : Obligations.PressWritesOneTokenAtTheFourthEdge := by
  intro s b hactive hpresent hidle edge third fourth done
  obtain ⟨hlatched, hthirdActive, hkept, hctrl, haccepted⟩ :=
    press_third_edge hactive hpresent hidle (third := third) rfl
  have htaken : OnlyBusy b CaptureChain.latched.next fourth := hlatched.after_evEdge hthirdActive .current
  obtain ⟨hfourthActive, hfourthCtrl, -⟩ := evEdge_keeps hthirdActive .current
  obtain ⟨hreleaseActive, hreleaseCtrl, -⟩ := drivePin_keeps (s := fourth) b true
  have hreleased : OnlyBusy b CaptureChain.released (drivePin b true fourth) :=
    latched_edge_released ▸ htaken.after_drivePin true
  obtain ⟨hchain, hquiet⟩ := released_three_edges
  obtain ⟨hrest, -, hreleaseKept, hdoneCtrl⟩ :=
    hreleased.after_quiet_edges (draw := .current) 3 (hreleaseActive hfourthActive) hquiet
  rw [hchain, onlyBusy_idle_iff hrest.1] at hrest
  obtain ⟨hwptr, hmem⟩ := hkept
  obtain ⟨hdoneWptr, hdoneMem⟩ := (fifoKept_drivePin b true fourth).trans hreleaseKept
  refine ⟨hwptr, hlatched.pend_eq, htaken.pend_eq, fun hroom => ?room, fun hfull => ?full, hdoneWptr, hdoneMem, hrest,
    hdoneCtrl.trans (hreleaseCtrl.trans (hfourthCtrl.trans hctrl))⟩
  case room =>
    rw [if_pos hroom] at haccepted
    obtain ⟨hnext, hwritten⟩ := evEdge_writes hthirdActive haccepted .current
    rw [hwptr] at hnext hwritten
    refine ⟨hnext, (hwritten s.wptr).trans (if_pos rfl), fun p hp => ?_⟩
    exact (hwritten p).trans ((if_neg hp).trans (hmem p))
  case full =>
    rw [if_neg (not_lt.2 hfull)] at haccepted
    exact FifoKept.trans ⟨hwptr, hmem⟩ (fifoKept_evEdge hthirdActive haccepted .current)

/-- Settles O54, format by format. -/
theorem decodeAndEncodeAgree : Obligations.DecodeAndEncodeAgree :=
  ⟨decodeWord_encode, encode_decodeEvt2, encode_decodeTicksel3⟩

/-- Settles O56, word by word. -/
theorem writtenOutWordsDecodeAsTheTablesSay : Obligations.WrittenOutWordsDecodeAsTheTablesSay :=
  ⟨rfl, rfl, rfl, rfl, rfl, rfl, rfl, rfl, rfl⟩

/-- Settles O57, button by button. -/
theorem buttonTokensDecodeToTheirTransitions : Obligations.ButtonTokensDecodeToTheirTransitions := by
  refine ⟨fun b => ?_, rfl, rfl, rfl⟩
  cases b with
  | mode => rfl
  | strength => rfl
  | power => rfl

end Sys2Proof.Proofs
end

section
/-!
PROOFS. The event FIFO (spec/40_event_fifo.md): the arbiter and the pending latches (R103 to R107, R118, R119), the
pointers and their positions over every step (R109, R110, R115), the full FIFO (R107, R108), and the pop with its
latency (R112 to R114).
-/

namespace Sys2Proof.Machine

/-! ### The arbiter (R105) -/

theorem forall_button {P : Button → Prop} : (∀ b, P b) ↔ P .mode ∧ P .strength ∧ P .power := by
  refine ⟨fun h => ⟨h _, h _, h _⟩, fun ⟨hmode, hstrength, hpower⟩ b => ?_⟩
  cases b with
  | mode => exact hmode
  | strength => exact hstrength
  | power => exact hpower

theorem waiting_iff (s : State) (b : Button) :
    waiting s b = true ↔ present s.cfg b = true ∧ perButton s.pend b = true := Bool.and_eq_true_iff

/-- Mode comes first, whatever else waits. -/
theorem arbiter_eq_mode_iff (s : State) : arbiter s = some .mode ↔ waiting s .mode = true := by
  unfold arbiter
  repeat' split
  all_goals simp_all

/-- Strength comes second. -/
theorem arbiter_eq_strength_iff (s : State) :
    arbiter s = some .strength ↔ waiting s .mode = false ∧ waiting s .strength = true := by
  unfold arbiter
  repeat' split
  all_goals simp_all

/-- Power comes last. -/
theorem arbiter_eq_power_iff (s : State) :
    arbiter s = some .power ↔
      waiting s .mode = false ∧ waiting s .strength = false ∧ waiting s .power = true := by
  unfold arbiter
  repeat' split
  all_goals simp_all

theorem arbiter_eq_none_iff (s : State) : arbiter s = none ↔ ∀ b, waiting s b = false := by
  rw [forall_button]
  unfold arbiter
  repeat' split
  all_goals simp_all

/-- What the arbiter takes is the waiting button of least index. -/
theorem arbiter_eq_some_iff (s : State) (b : Button) :
    arbiter s = some b ↔
      waiting s b = true ∧ ∀ b', waiting s b' = true → buttonIndex b ≤ buttonIndex b' := by
  rw [forall_button]
  cases b with
  | mode => simp [arbiter_eq_mode_iff, buttonIndex]
  | strength => simp [arbiter_eq_strength_iff, buttonIndex, and_comm]
  | power => simp [arbiter_eq_power_iff, buttonIndex, and_comm, and_left_comm]

/-! ### The pending latches over an edge (R103) -/

/-- Only a present button can fall (R102). -/
theorem present_of_fall {s : State} {b : Button} (hfall : fall s b = true) : present s.cfg b = true := by
  rw [fall, Bool.and_eq_true, Bool.and_eq_true] at hfall
  obtain ⟨⟨hpresent, -⟩, -⟩ := hfall
  exact hpresent

/-- A button waits after an edge if it waited before and was not taken, or if it falls at the edge. -/
theorem waiting_evEdge {s : State} (hactive : evActive s) (draw : Draw) (b : Button) :
    waiting (evEdge draw s) b = true ↔ (waiting s b = true ∧ arbiter s ≠ some b) ∨ fall s b = true := by
  rw [evEdge_of_active hactive, evStep_frame]
  cases hpresent : present s.cfg b with
  | false => simp [waiting, fall, hpresent]
  | true => simp [waiting, nextPend, hpresent]

/-! ### The full drop and the merge (R104, R107, R118) -/

theorem accepted_eq_none_of_full {s : State} (hfull : s.cfg.fifoDepth ≤ countW s) : accepted s = none := by
  unfold accepted
  split
  · exact if_neg (not_lt.2 hfull)
  · rfl

/-- An edge at which nothing is accepted moves the capture chain, the read-pointer synchroniser and the ghost counter,
and nothing else (R107). -/
theorem evStep_of_accepted_none {s : State} (hnone : accepted s = none) (draw : Draw) :
    evStep draw s = { s with
      pend := forButtons (nextPend s)
      bsync := forButtons (nextBsync s)
      bprev := forButtons (nextBprev s)
      rsync := shiftIn s.rsync (sampleRptr draw s)
      rchg := false
      drops := s.drops + dropsNow s } := by
  rw [evStep_eq, hnone]
  rfl

/-- The latch of the button that was taken holds a new falling edge only (R103). -/
theorem nextPend_of_taken {s : State} {b : Button} (htaken : arbiter s = some b) : nextPend s b = fall s b := by
  obtain ⟨hpresent, -⟩ := arbiter_eq_some htaken
  simp [nextPend, hpresent, htaken]

/-- An event taken at a full producer view counts one in the ghost counter, beside the merges (R107, R118). -/
theorem dropsNow_of_fullDrop {s : State} {b : Button} (htaken : arbiter s = some b) (hnone : accepted s = none) :
    dropsNow s = 1 + (merges s .mode).toNat + (merges s .strength).toNat + (merges s .power).toNat := by
  rw [dropsNow, fullDrop, htaken, hnone]
  rfl

/-- The state without the falling edge of button b at this edge (R102). -/
def withoutFall (b : Button) (s : State) : State := { s with bprev := setButton s.bprev b false }

theorem fall_withoutFall (b b' : Button) (s : State) :
    fall (withoutFall b s) b' = (decide (b' ≠ b) && fall s b') := by
  by_cases heq : b' = b
  · simp [fall, withoutFall, heq]
  · simp [fall, withoutFall, heq]

theorem merges_withoutFall (b b' : Button) (s : State) :
    merges (withoutFall b s) b' = (decide (b' ≠ b) && merges s b') := by
  have hpend : (withoutFall b s).pend = s.pend := rfl
  have htaken : arbiter (withoutFall b s) = arbiter s := rfl
  simp only [merges, fall_withoutFall, hpend, htaken, Bool.and_assoc]

/-- The merged falling edge counts one more in the ghost counter (R118). -/
theorem dropsNow_withoutFall {s : State} {b : Button} (hmerges : merges s b = true) :
    dropsNow s = dropsNow (withoutFall b s) + 1 := by
  have hfull : fullDrop (withoutFall b s) = fullDrop s := rfl
  have hcount (b' : Button) :
      (merges s b').toNat = (merges (withoutFall b s) b').toNat + (decide (b' = b)).toNat := by
    rw [merges_withoutFall]
    by_cases heq : b' = b
    · simp [heq, hmerges]
    · simp [heq]
  have honce : (decide (Button.mode = b)).toNat + (decide (Button.strength = b)).toNat +
      (decide (Button.power = b)).toNat = 1 := by
    cases b with
    | mode | strength | power => rfl
  rw [dropsNow, dropsNow, hfull, hcount, hcount, hcount]
  omega

/-- A latch that holds an edge already does not see the merged one (R104). -/
theorem nextPend_withoutFall {s : State} {b : Button} (hmerges : merges s b = true) :
    nextPend (withoutFall b s) = nextPend s := by
  funext b'
  rw [merges, Bool.and_eq_true, Bool.and_eq_true] at hmerges
  obtain ⟨⟨-, hpend⟩, hnot⟩ := hmerges
  have hcfg : (withoutFall b s).cfg = s.cfg := rfl
  have hkept : (withoutFall b s).pend = s.pend := rfl
  have htaken : arbiter (withoutFall b s) = arbiter s := rfl
  simp only [nextPend, fall_withoutFall, hcfg, hkept, htaken]
  by_cases heq : b' = b
  · rw [heq, hpend, hnot]
    rfl
  · rw [decide_eq_true heq, Bool.true_and]

/-- BPREV[b] takes the synchronised level at the edge, whatever it held (R101). -/
theorem nextBprev_withoutFall {s : State} {b : Button} (hpresent : present s.cfg b = true) :
    nextBprev (withoutFall b s) = nextBprev s := by
  funext b'
  by_cases heq : b' = b
  · subst heq
    simp [nextBprev, withoutFall, hpresent]
  · simp [nextBprev, withoutFall, heq]

/-- The edge with a merged falling edge is the edge without it, but for the ghost counter (R104, R118). -/
theorem evStep_of_merge {s : State} {b : Button} (hmerges : merges s b = true) (hpresent : present s.cfg b = true)
    (draw : Draw) :
    evStep draw s =
      { evStep draw (withoutFall b s) with drops := (evStep draw (withoutFall b s)).drops + 1 } := by
  have haccepted : accepted (withoutFall b s) = accepted s := rfl
  simp only [evStep_eq, captureButtons, nextPend_withoutFall hmerges, nextBprev_withoutFall hpresent,
    dropsNow_withoutFall hmerges, haccepted]
  cases accepted s with
  | none => rfl
  | some b' => rfl

/-! ### Runs of clk_ev edges with spaced falling edges (R119) -/

theorem evRun_active {s : State} (hactive : evActive s) (pins : Nat → PerButton Bool) (draws : Nat → Draw) (n : Nat) :
    evActive (evRun pins draws s n) := by
  induction n with
  | zero => exact hactive
  | succ n ih =>
    obtain ⟨hnext, -⟩ := evEdge_keeps (s := { evRun pins draws s n with btnN := pins n }) ih (draws n)
    exact hnext

/-- A run of clk_ev edges as the pending latches see it: nothing waits at first, each edge latches and takes, and up to
the given length the falling edges of a button are at least 3 edges apart. -/
structure SpacedRun (run : Nat → State) (len : Nat) : Prop where
  idle : ∀ b, waiting (run 0) b = false
  latch : ∀ n b, waiting (run (n + 1)) b = true ↔
    (waiting (run n) b = true ∧ arbiter (run n) ≠ some b) ∨ fall (run n) b = true
  spaced : ∀ b i j, i < j → j < len → fall (run i) b = true → fall (run j) b = true → i + 3 ≤ j

/-- The pins have no part in what an edge latches and takes: they reach the synchronisers only (R101). -/
theorem spacedRun_evRun {s : State} {pins : Nat → PerButton Bool} {draws : Nat → Draw} {len : Nat}
    (hactive : evActive s) (hidle : ∀ b, present s.cfg b = true → perButton s.pend b = false)
    (hspaced : ∀ b i j, i < j → j < len → fall (evRun pins draws s i) b = true →
      fall (evRun pins draws s j) b = true → i + 3 ≤ j) : SpacedRun (evRun pins draws s) len where
  idle b := by
    rw [← Bool.not_eq_true]
    intro hwaits
    obtain ⟨hpresent, hpend⟩ := (waiting_iff s b).1 hwaits
    rw [hidle b hpresent] at hpend
    cases hpend
  latch n b :=
    waiting_evEdge (s := { evRun pins draws s n with btnN := pins n }) (evRun_active hactive pins draws n) (draws n) b
  spaced := hspaced

section SpacedRun

variable {run : Nat → State} {len n : Nat} {b : Button}

/-- A button that falls waits at the next edge. -/
theorem SpacedRun.waits_of_fall (h : SpacedRun run len) (hfall : fall (run n) b = true) :
    waiting (run (n + 1)) b = true :=
  (h.latch n b).2 (.inr hfall)

/-- A button that waits and is not taken goes on waiting. -/
theorem SpacedRun.waits_on (h : SpacedRun run len) (hwaits : waiting (run n) b = true)
    (hnot : arbiter (run n) ≠ some b) : waiting (run (n + 1)) b = true :=
  (h.latch n b).2 (.inl ⟨hwaits, hnot⟩)

/-- What waits has fallen, and has not been taken since. -/
theorem SpacedRun.exists_fall (h : SpacedRun run len) (hwaits : waiting (run n) b = true) :
    ∃ f < n, fall (run f) b = true ∧ ∀ k, f < k → k < n → arbiter (run k) ≠ some b := by
  induction n with
  | zero =>
    rw [h.idle b] at hwaits
    cases hwaits
  | succ n ih =>
    rcases (h.latch n b).1 hwaits with ⟨hbefore, hnot⟩ | hfall
    · obtain ⟨f, hlt, hfall, huntaken⟩ := ih hbefore
      refine ⟨f, Nat.lt_succ_of_lt hlt, hfall, fun k hfk hkn => ?_⟩
      rcases Nat.lt_succ_iff_lt_or_eq.1 hkn with hk | rfl
      · exact huntaken k hfk hk
      · exact hnot
    · exact ⟨n, n.lt_succ_self, hfall, fun k hfk hkn => by omega⟩

/-- Mode is taken at once, so it waits only right after a fall. -/
theorem SpacedRun.mode_fell (h : SpacedRun run len) (hwaits : waiting (run n) .mode = true) :
    ∃ m, n = m + 1 ∧ fall (run m) .mode = true := by
  cases n with
  | zero =>
    rw [h.idle .mode] at hwaits
    cases hwaits
  | succ m =>
    rcases (h.latch m .mode).1 hwaits with ⟨hbefore, hnot⟩ | hfall
    · exact absurd ((arbiter_eq_mode_iff _).2 hbefore) hnot
    · exact ⟨m, rfl, hfall⟩

/-- Strength waits for Mode only, so it is taken at the first edge after its fall, or at the second if Mode fell with
it. -/
theorem SpacedRun.strength_taken (h : SpacedRun run len) (hlen : n + 1 < len)
    (hfall : fall (run n) .strength = true) :
    arbiter (run (n + 1)) = some .strength ∨
      fall (run n) .mode = true ∧ arbiter (run (n + 2)) = some .strength := by
  have hwaits : waiting (run (n + 1)) .strength = true := h.waits_of_fall hfall
  by_cases hfirst : arbiter (run (n + 1)) = some .strength
  · exact .inl hfirst
  have hmode : waiting (run (n + 1)) .mode = true := by
    simpa [arbiter_eq_strength_iff, hwaits] using hfirst
  obtain ⟨m, heq, hmodeFall⟩ := h.mode_fell hmode
  cases heq
  refine .inr ⟨hmodeFall, (arbiter_eq_strength_iff _).2 ⟨?_, h.waits_on hwaits hfirst⟩⟩
  rw [← Bool.not_eq_true]
  intro hagain
  obtain ⟨m, heq, hmodeAgain⟩ := h.mode_fell hagain
  cases heq
  have := h.spaced .mode n (n + 1) n.lt_succ_self hlen hmodeFall hmodeAgain
  omega

/-- Strength waits right after a fall, or one edge longer if Mode fell with it. -/
theorem SpacedRun.strength_fell (h : SpacedRun run len) (hlen : n ≤ len) (hwaits : waiting (run n) .strength = true) :
    ∃ f, fall (run f) .strength = true ∧ (n = f + 1 ∨ n = f + 2 ∧ fall (run f) .mode = true) := by
  obtain ⟨f, hlt, hfall, huntaken⟩ := h.exists_fall hwaits
  refine ⟨f, hfall, ?_⟩
  by_cases hnext : n = f + 1
  · exact .inl hnext
  rcases h.strength_taken (by omega) hfall with hfirst | ⟨hmode, hsecond⟩
  · exact absurd hfirst (huntaken (f + 1) (by omega) (by omega))
  · have hlast : ¬ f + 2 < n := fun hbefore => huntaken (f + 2) (by omega) hbefore hsecond
    exact .inr ⟨by omega, hmode⟩

/-- Edges that take Mode are spaced like its falls. -/
theorem SpacedRun.mode_takes_spaced {i j : Nat} (h : SpacedRun run len) (hlt : i < j) (hlen : j ≤ len)
    (hi : arbiter (run i) = some .mode) (hj : arbiter (run j) = some .mode) : i + 3 ≤ j := by
  obtain ⟨m, rfl, hfirst⟩ := h.mode_fell ((arbiter_eq_mode_iff _).1 hi)
  obtain ⟨m', rfl, hsecond⟩ := h.mode_fell ((arbiter_eq_mode_iff _).1 hj)
  have := h.spaced .mode m m' (by omega) (by omega) hfirst hsecond
  omega

/-- Strength is never taken at two edges in a row: it would have to fall within 2 edges of its last fall. -/
theorem SpacedRun.strength_rests (h : SpacedRun run len) (hlen : n < len)
    (htaken : arbiter (run n) = some .strength) : arbiter (run (n + 1)) ≠ some .strength := by
  intro hagain
  obtain ⟨-, hwaits⟩ := (arbiter_eq_strength_iff _).1 htaken
  obtain ⟨-, hwaitsAgain⟩ := (arbiter_eq_strength_iff _).1 hagain
  obtain ⟨f, hfall, hwhen⟩ := h.strength_fell hlen.le hwaits
  rcases (h.latch n .strength).1 hwaitsAgain with ⟨-, hnot⟩ | hfallAgain
  · exact hnot htaken
  · have := h.spaced .strength f n (by omega) hlen hfall hfallAgain
    omega

/-- What keeps a waiting Power from being taken is Mode or Strength. -/
theorem power_overtaken {s : State} (hwaits : waiting s .power = true) (hnot : arbiter s ≠ some .power) :
    arbiter s = some .mode ∨ arbiter s = some .strength := by
  cases htaken : arbiter s with
  | none =>
    rw [(arbiter_eq_none_iff s).1 htaken .power] at hwaits
    cases hwaits
  | some b =>
    cases b with
    | mode => exact .inl rfl
    | strength => exact .inr rfl
    | power => exact absurd htaken hnot

/-- Strength, Mode, Strength cannot be taken at three edges in a row. The first Strength fell at the edge before it, too
close to the fall of the second, or earlier beside a fall of Mode, too close to the fall of the Mode taken. -/
theorem SpacedRun.no_strength_mode_strength (h : SpacedRun run len) (hlen : n + 2 < len)
    (hfirst : arbiter (run n) = some .strength) (hmode : arbiter (run (n + 1)) = some .mode) :
    arbiter (run (n + 2)) ≠ some .strength := by
  intro hthird
  obtain ⟨-, hwaits⟩ := (arbiter_eq_strength_iff _).1 hfirst
  obtain ⟨-, hwaitsThird⟩ := (arbiter_eq_strength_iff _).1 hthird
  obtain ⟨m, heq, hmodeFall⟩ := h.mode_fell ((arbiter_eq_mode_iff _).1 hmode)
  cases heq
  obtain ⟨f, hfall, hwhen⟩ := h.strength_fell (by omega) hwaits
  obtain ⟨f', hfall', hwhen'⟩ := h.strength_fell (by omega) hwaitsThird
  have hspaced := h.spaced .strength f f' (by omega) (by omega) hfall hfall'
  rcases hwhen with heq | ⟨heq, hmodeBeside⟩
  · omega
  · have := h.spaced .mode f n (by omega) (by omega) hmodeBeside hmodeFall
    omega

/-- Power is taken within three edges of its fall: of three edges in a row Mode takes at most one, and Strength neither
two neighbours nor the two around Mode. -/
theorem SpacedRun.power_taken (h : SpacedRun run len) (hlen : n + 3 < len) (hfall : fall (run n) .power = true) :
    ∃ k, 1 ≤ k ∧ k ≤ 3 ∧ arbiter (run (n + k)) = some .power := by
  by_contra hnever
  push Not at hnever
  have hfirst := hnever 1 le_rfl (by decide)
  have hsecond := hnever 2 (by decide) (by decide)
  have hwaits := h.waits_of_fall hfall
  have hwaits2 := h.waits_on hwaits hfirst
  have hwaits3 := h.waits_on hwaits2 hsecond
  have hthird := power_overtaken hwaits3 (hnever 3 (by decide) le_rfl)
  rcases power_overtaken hwaits hfirst with hmode | hstrength
  · rcases power_overtaken hwaits2 hsecond with hmode2 | hstrength2
    · have := h.mode_takes_spaced (by omega) (by omega) hmode hmode2
      omega
    · rcases hthird with hmode3 | hstrength3
      · have := h.mode_takes_spaced (by omega) (by omega) hmode hmode3
        omega
      · exact h.strength_rests (by omega) hstrength2 hstrength3
  · rcases power_overtaken hwaits2 hsecond with hmode2 | hstrength2
    · rcases hthird with hmode3 | hstrength3
      · have := h.mode_takes_spaced (by omega) (by omega) hmode2 hmode3
        omega
      · exact h.no_strength_mode_strength (by omega) hstrength hmode2 hstrength3
    · exact h.strength_rests (by omega) hstrength hstrength2

/-- An edge latched for button b is taken within b + 1 edges (R119). -/
theorem SpacedRun.taken_in_time (h : SpacedRun run len) (hlen : n + buttonIndex b + 1 < len)
    (hfall : fall (run n) b = true) :
    ∃ k, 1 ≤ k ∧ k ≤ buttonIndex b + 1 ∧ arbiter (run (n + k)) = some b := by
  cases b with
  | mode => exact ⟨1, le_rfl, le_rfl, (arbiter_eq_mode_iff _).2 (h.waits_of_fall hfall)⟩
  | strength =>
    rcases h.strength_taken (Nat.lt_of_succ_lt hlen) hfall with hfirst | ⟨-, hsecond⟩
    · exact ⟨1, le_rfl, by decide, hfirst⟩
    · exact ⟨2, by decide, le_rfl, hsecond⟩
  | power => exact h.power_taken hlen hfall

/-- A button that falls again has been taken by then, so no edge merges (R104, R119). -/
theorem SpacedRun.no_merge (h : SpacedRun run len) (hlen : n < len) : merges (run n) b = false := by
  rw [← Bool.not_eq_true, merges, Bool.and_eq_true, Bool.and_eq_true, decide_eq_true_eq]
  rintro ⟨⟨hfall, hpend⟩, hnot⟩
  obtain ⟨f, hlt, hfirst, huntaken⟩ := h.exists_fall ((waiting_iff _ b).2 ⟨present_of_fall hfall, hpend⟩)
  have hspaced : f + 3 ≤ n := h.spaced b f n hlt hlen hfirst hfall
  have hindex : buttonIndex b ≤ 2 := by cases b <;> decide
  obtain ⟨k, hpos, hle, htaken⟩ := h.taken_in_time (by omega) hfirst
  rcases Nat.lt_or_ge (f + k) n with hbefore | hat
  · exact huntaken (f + k) (by omega) hbefore htaken
  · obtain rfl : f + k = n := by omega
    exact hnot htaken

end SpacedRun

/-! ### Mode and Strength at the fastest rate (R119) -/

/-- The synchroniser of a present button over an edge (R101). -/
theorem bsync_bprev_evEdge {s : State} {b : Button} (hactive : evActive s) (hpresent : present s.cfg b = true)
    (draw : Draw) :
    perButton (evEdge draw s).bsync b = shiftIn (perButton s.bsync b) (perButton s.btnN b) ∧
      perButton (evEdge draw s).bprev b = (perButton s.bsync b).stage1 := by
  rw [evEdge_of_active hactive, evStep_frame]
  simp [nextBsync, nextBprev, hpresent]

/-- The button falls at this edge, and its pin has been sampled high again. -/
def FallsNow (s : State) (b : Button) : Prop :=
  perButton s.bprev b = true ∧ perButton s.bsync b = ⟨true, false⟩

/-- The button rises at this edge, and its pin has been sampled low again, so it falls at the next. -/
def FallsNext (s : State) (b : Button) : Prop :=
  perButton s.bprev b = false ∧ perButton s.bsync b = ⟨false, true⟩

/-- With its pin low at this edge, a button that falls now falls again two edges later. -/
theorem FallsNow.after_evEdge {s : State} {b : Button} (h : FallsNow s b) (hactive : evActive s)
    (hpresent : present s.cfg b = true) (hpin : perButton s.btnN b = false) (draw : Draw) :
    FallsNext (evEdge draw s) b := by
  obtain ⟨-, hsync⟩ := h
  obtain ⟨hsync', hprev'⟩ := bsync_bprev_evEdge hactive hpresent draw
  rw [FallsNext, hsync', hprev', hsync, hpin]
  exact ⟨rfl, rfl⟩

/-- With its pin high at this edge, a button that falls next is back up two edges later. -/
theorem FallsNext.after_evEdge {s : State} {b : Button} (h : FallsNext s b) (hactive : evActive s)
    (hpresent : present s.cfg b = true) (hpin : perButton s.btnN b = true) (draw : Draw) :
    FallsNow (evEdge draw s) b := by
  obtain ⟨-, hsync⟩ := h
  obtain ⟨hsync', hprev'⟩ := bsync_bprev_evEdge hactive hpresent draw
  rw [FallsNow, hsync', hprev', hsync, hpin]
  exact ⟨rfl, rfl⟩

theorem FallsNow.fall_eq {s : State} {b : Button} (h : FallsNow s b) (hpresent : present s.cfg b = true) :
    fall s b = true := by
  obtain ⟨hprev, hsync⟩ := h
  rw [fall, hpresent, hprev, hsync]
  rfl

theorem FallsNext.fall_eq {s : State} {b : Button} (h : FallsNext s b) : fall s b = false := by
  obtain ⟨hprev, -⟩ := h
  rw [fall, hprev, Bool.and_false, Bool.false_and]

/-- Power waits behind button a, and button b falls at this edge, to take its turn at the next. -/
def Starving (a b : Button) (s : State) : Prop :=
  evActive s ∧ waiting s .power = true ∧ waiting s a = true ∧ waiting s b = false ∧ FallsNext s a ∧ FallsNow s b

/-- Mode and Strength in turn, Mode at the even edges. -/
def turn (n : Nat) : Button := if n % 2 = 0 then .mode else .strength

/-- At edge n the button of the next turn is held low, the others are released. -/
def starvingPins (n : Nat) : PerButton Bool := forButtons fun b => decide (b ≠ turn (n + 1))

theorem turn_add_two (n : Nat) : turn (n + 2) = turn n := by
  rw [turn, Nat.add_mod_right, turn]

theorem turn_cases (n : Nat) :
    turn n = .mode ∧ turn (n + 1) = .strength ∨ turn n = .strength ∧ turn (n + 1) = .mode := by
  unfold turn
  rcases Nat.mod_two_eq_zero_or_one n with heven | hodd
  · exact .inl ⟨if_pos heven, if_neg (by omega)⟩
  · exact .inr ⟨if_neg (by omega), if_pos (by omega)⟩

/-- Mode and Strength are buttons of every build (R43). -/
theorem present_turn (c : Config) (n : Nat) : present c (turn n) = true := by
  rcases turn_cases n with ⟨hturn, -⟩ | ⟨hturn, -⟩
  · rw [hturn]; rfl
  · rw [hturn]; rfl

theorem Starving.arbiter_eq {n : Nat} {s : State} (h : Starving (turn n) (turn (n + 1)) s) :
    arbiter s = some (turn n) := by
  obtain ⟨-, -, hwaits, hrests, -, -⟩ := h
  rcases turn_cases n with ⟨hthis, hnext⟩ | ⟨hthis, hnext⟩
  · rw [hthis] at hwaits ⊢
    exact (arbiter_eq_mode_iff s).2 hwaits
  · rw [hthis] at hwaits ⊢
    rw [hnext] at hrests
    exact (arbiter_eq_strength_iff s).2 ⟨hrests, hwaits⟩

/-- It is never the turn of Power. -/
theorem turn_ne_power (n : Nat) : turn n ≠ .power := by
  unfold turn
  split
  · nofun
  · nofun

/-- One edge with the starving pins passes the turn on, and Power goes on waiting. -/
theorem Starving.after_evEdge {n : Nat} {s : State} (h : Starving (turn n) (turn (n + 1)) s) (draw : Draw) :
    Starving (turn (n + 1)) (turn (n + 2)) (evEdge draw { s with btnN := starvingPins n }) := by
  have htaken : arbiter s = some (turn n) := h.arbiter_eq
  obtain ⟨hactive, hpower, -, -, hthis, hnext⟩ := h
  have hrelease : perButton (starvingPins n) (turn n) = true := by
    rcases turn_cases n with ⟨hturn, hturn'⟩ | ⟨hturn, hturn'⟩
    · simp [starvingPins, hturn, hturn']
    · simp [starvingPins, hturn, hturn']
  have hpress : perButton (starvingPins n) (turn (n + 1)) = false := by simp [starvingPins]
  have hpowerNot : arbiter s ≠ some .power := by simp [htaken, turn_ne_power]
  have hfallThis : fall s (turn n) = false := hthis.fall_eq
  have hfallNext : fall s (turn (n + 1)) = true := hnext.fall_eq (present_turn _ _)
  have hlatch := waiting_evEdge (s := { s with btnN := starvingPins n }) hactive draw
  obtain ⟨hactive', -⟩ := evEdge_keeps (s := { s with btnN := starvingPins n }) hactive draw
  rw [turn_add_two]
  refine ⟨hactive', (hlatch _).2 (.inl ⟨hpower, hpowerNot⟩), (hlatch _).2 (.inr hfallNext), ?rests,
    FallsNow.after_evEdge (s := { s with btnN := starvingPins n }) hnext hactive (present_turn _ _) hpress draw,
    FallsNext.after_evEdge (s := { s with btnN := starvingPins n }) hthis hactive (present_turn _ _) hrelease draw⟩
  case rests =>
    rw [← Bool.not_eq_true, hlatch]
    rintro (⟨-, hnot⟩ | hfall)
    · exact hnot htaken
    · exact absurd (hfallThis.symm.trans hfall) Bool.false_ne_true

theorem starving_evRun {s : State} (h : Starving (turn 0) (turn 1) s) (draws : Nat → Draw) (n : Nat) :
    Starving (turn n) (turn (n + 1)) (evRun starvingPins draws s n) := by
  induction n with
  | zero => exact h
  | succ n ih => exact ih.after_evEdge (draws n)

/-! ### The FIFO over every step (R115) -/

theorem afterAct_stim (a : EnvAct) (s : State) : (afterAct a s).stim = s.stim := by
  cases a with
  | pin b level =>
    rw [afterAct_pin, drivePin]
    split
    · rfl
    · rfl
  | rstN level =>
    cases level with
    | true => rfl
    | false => rfl
  | evEdge draw =>
    rw [afterAct_evEdge, evEdge]
    split
    · rw [evResetEdge_eq]
    · rw [evStep_frame]
  | coreEdge tick draw =>
    rw [afterAct_coreEdge]
    split
    · rw [coreResetEdge_eq]
    · rfl

/-- A reset puts every position to 0 (R39, R230). -/
theorem assertReset_ordered (s : State) : FifoOrdered (assertReset s) := fifoOrdered_resetOf s.cfg

/-- Every act of the environment keeps the FIFO ordered, resets included. -/
theorem afterAct_ordered {s : State} (hwf : s.cfg.wf = true) (h : FifoOrdered s) (a : EnvAct) :
    FifoOrdered (afterAct a s) := by
  cases a with
  | rstN level =>
    cases level with
    | true => exact h
    | false => exact assertReset_ordered s
  | pin b level => exact afterAct_keeps_ordered hwf h rfl
  | evEdge draw => exact afterAct_keeps_ordered hwf h rfl
  | coreEdge tick draw => exact afterAct_keeps_ordered hwf h rfl

/-- A stimulus without upsets keeps the FIFO ordered (R47, R90). -/
theorem step_keeps_ordered {s t : State} (h : FifoOrdered s) (hquiet : noUpset s.stim = true)
    (hstep : step s = .next t) : FifoOrdered t ∧ noUpset t.stim = true := by
  obtain ⟨hwf, ⟨c, rest, hstim, hrun⟩ | ⟨-, rfl⟩⟩ := step_eq_next hstep
  · rw [hstim] at hquiet
    rw [runStim_eq] at hrun
    cases hrun
    cases c with
    | env a =>
      refine ⟨afterAct_ordered (s := { s with stim := rest }) hwf h a, ?_⟩
      rw [afterAct_stim]
      exact noUpset_tail hquiet
    | reset => exact ⟨assertReset_ordered { s with stim := rest }, noUpset_tail hquiet⟩
    | force r v => cases hquiet
  · refine ⟨afterAct_ordered (s := { s with now := s.now + 1 }) hwf h _, ?_⟩
    rw [afterAct_stim]
    exact hquiet

/-- With FIFO_DEPTH unread tokens the producer view, which never shows less, is full (R108). -/
theorem accepted_eq_none_of_occupancy {s : State} (hwf : s.cfg.wf = true) (h : FifoOrdered s)
    (hfull : occupancy s = s.cfg.fifoDepth) : accepted s = none := by
  obtain ⟨hproducer, -, -⟩ := views_bound_occupancy hwf h
  exact accepted_eq_none_of_full (hfull ▸ hproducer)

/-! ### The pop and its latency (R112 to R114) -/

theorem fetchToken_eq_none_of_empty {s : State} (hempty : countR s = 0) : fetchToken s = none := by
  rw [fetchToken, hempty, if_neg (lt_irrefl 0)]

/-- CTRL as read after a token depends on CTRL as read before it (R25, R130). -/
theorem hardwirePwr_storedCtrl (c : Config) (v : Ctrl) (tok : Token) :
    hardwirePwr c (storedCtrl c v tok) = storedCtrl c (hardwirePwr c v) tok := by
  unfold storedCtrl
  repeat' split
  all_goals simp only [hardwirePwr_idem]

theorem readCtrl_dispatch_one (tok : Token) (s : State) :
    readCtrl (dispatchAll [tok] s) = storedCtrl s.cfg (readCtrl s) tok := by
  rw [dispatchAll, exec_token]
  exact hardwirePwr_storedCtrl s.cfg s.ctrl tok

/-- CTRL and RPTR after a clk_core edge that pops nothing, whatever the tick (R113). -/
theorem coreNext_of_empty {s : State} (hempty : fetchToken s = none) (tick : Bool) (draw : Draw) :
    (coreNext tick draw s).ctrl = s.ctrl ∧ (coreNext tick draw s).rptr = s.rptr ∧
      (coreNext tick draw s).rchg = s.rchg := by
  simp [coreNext, hempty]

/-- CTRL and RPTR after a clk_core edge that pops a token, whatever the tick (R112, R130). -/
theorem coreNext_of_token {s : State} {tok : Token} (hfetch : fetchToken s = some tok) (tick : Bool) (draw : Draw) :
    readCtrl (coreNext tick draw s) = storedCtrl s.cfg (readCtrl s) tok ∧
      (coreNext tick draw s).rptr = s.rptr + 1 := by
  refine ⟨?_, by simp [coreNext, hfetch]⟩
  rw [readCtrl, coreNext, hfetch]
  exact hardwirePwr_storedCtrl s.cfg s.ctrl tok

/-- The consumer's side is as it was: its build and reset, RPTR and the write-pointer synchroniser. -/
def ConsumerKept (s t : State) : Prop :=
  t.cfg = s.cfg ∧ coreInReset t = coreInReset s ∧ t.rptr = s.rptr ∧ t.wsync = s.wsync

theorem consumerKept_drivePin (b : Button) (level : Bool) (s : State) : ConsumerKept s (drivePin b level s) := by
  unfold drivePin
  split
  · exact ⟨rfl, rfl, rfl, rfl⟩
  · exact ⟨rfl, rfl, rfl, rfl⟩

theorem consumerKept_evEdge (draw : Draw) (s : State) : ConsumerKept s (evEdge draw s) := by
  unfold evEdge
  split
  · rw [evResetEdge_eq]
    exact ⟨rfl, rfl, rfl, rfl⟩
  · rw [evStep_frame]
    exact ⟨rfl, rfl, rfl, rfl⟩

theorem ConsumerKept.trans {s t u : State} (hst : ConsumerKept s t) (htu : ConsumerKept t u) : ConsumerKept s u := by
  obtain ⟨hcfg, hreset, hrptr, hsync⟩ := hst
  obtain ⟨hcfg', hreset', hrptr', hsync'⟩ := htu
  exact ⟨hcfg'.trans hcfg, hreset'.trans hreset, hrptr'.trans hrptr, hsync'.trans hsync⟩

theorem consumerKept_evEdges (draw : Draw) (n : Nat) (s : State) : ConsumerKept s ((evEdge draw)^[n] s) := by
  induction n generalizing s with
  | zero => exact ⟨rfl, rfl, rfl, rfl⟩
  | succ n ih => exact (consumerKept_evEdge draw s).trans (ih (evEdge draw s))

/-- An accepted event sets WCHG (R106). -/
theorem evEdge_wchg_of_accepted {s : State} {b : Button} (hactive : evActive s) (haccepted : accepted s = some b)
    (draw : Draw) : (evEdge draw s).wchg = true := by
  rw [evEdge_of_active hactive, evStep_eq, haccepted]
  rfl

/-- Seen from state s: the token is the only one in the FIFO, nothing has been popped or dispatched, and the stages of
the write-pointer synchroniser hold the pointers p0 and p1. -/
def LoneToken (s : State) (tok : Token) (p0 p1 : Ptr) (t : State) : Prop :=
  coreActive t ∧ t.cfg = s.cfg ∧ readCtrl t = readCtrl s ∧ t.rptr = s.rptr ∧ t.wptr = s.rptr + 1 ∧
    memRead t s.rptr = tok ∧ t.wsync = ⟨gray p0, gray p1⟩

/-- While the last stage holds the old pointer, an edge only moves the synchroniser (R110, R113). -/
theorem LoneToken.after_hidden_edge {s t : State} {tok : Token} {p q : Ptr} (h : LoneToken s tok p s.rptr t)
    {draw : Draw} (hsample : samplePtr t.wchg draw (s.rptr + 1) = gray q) (tick : Bool) :
    LoneToken s tok q p (afterAct (.coreEdge tick draw) t) := by
  obtain ⟨hactive, hcfg, hctrl, hrptr, hwptr, hmem, hsync⟩ := h
  have hempty : fetchToken t = none := by
    apply fetchToken_eq_none_of_empty
    rw [countR, hsync, hrptr, bin_gray, BitVec.sub_self]
    rfl
  obtain ⟨hctrl', hrptr', -⟩ := coreNext_of_empty hempty tick draw
  have hread : readCtrl (coreNext tick draw t) = readCtrl t := readCtrl_congr (coreNext_cfg tick draw t) hctrl'
  rw [afterAct_coreEdge, show coreInReset t = false from hactive, if_neg Bool.false_ne_true]
  refine ⟨hactive, hcfg, hread.trans hctrl, hrptr'.trans hrptr, hwptr, hmem, ?sync⟩
  case sync =>
    have hshift : (coreNext tick draw t).wsync = shiftIn t.wsync (sampleWptr draw t) := rfl
    rw [hshift, sampleWptr, hwptr, hsample, hsync]
    rfl

/-- With a current draw the first stage takes the new pointer. -/
theorem LoneToken.after_current_edge {s t : State} {tok : Token} {p : Ptr} (h : LoneToken s tok p s.rptr t)
    (tick : Bool) : LoneToken s tok (s.rptr + 1) p (afterAct (.coreEdge tick .current) t) :=
  h.after_hidden_edge (samplePtr_current _ _) tick

/-- Once the last stage holds the new pointer, the edge pops the token and dispatches it (R112, R130). -/
theorem LoneToken.dispatched {s t : State} {tok : Token} {p : Ptr} (h : LoneToken s tok p (s.rptr + 1) t)
    (tick : Bool) (draw : Draw) :
    (afterAct (.coreEdge tick draw) t).rptr = s.rptr + 1 ∧
      readCtrl (afterAct (.coreEdge tick draw) t) = readCtrl (dispatchAll [tok] s) := by
  obtain ⟨hactive, hcfg, hctrl, hrptr, -, hmem, hsync⟩ := h
  have hfetch : fetchToken t = some tok := by
    have hview : countR t = 1 := by
      rw [countR, hsync, hrptr, bin_gray, BitVec.add_comm, BitVec.add_sub_cancel]
      rfl
    rw [fetchToken, hview, if_pos Nat.one_pos, hrptr, hmem]
  obtain ⟨hctrl', hrptr'⟩ := coreNext_of_token hfetch tick draw
  rw [afterAct_coreEdge, show coreInReset t = false from hactive, if_neg Bool.false_ne_true, readCtrl_dispatch_one,
    hctrl', hrptr', hcfg, hctrl, hrptr]
  exact ⟨rfl, rfl⟩

/-- Four clk_ev edges into a press from an idle chain and an empty FIFO, the token is the only one in the FIFO and the
synchroniser has not seen it yet (R101 to R106). -/
theorem loneToken_of_press {s : State} {b : Button} (hwf : s.cfg.wf = true) (hev : evActive s) (hcore : coreActive s)
    (hpresent : present s.cfg b = true) (hidle : captureIdle s) (hempty : s.wptr = s.rptr)
    (hsync : s.wsync = ⟨gray s.wptr, gray s.wptr⟩) {fourth : State}
    (hfourth : fourth = (evEdge .current)^[4] (drivePin b false s)) :
    LoneToken s (tokenOf b) s.rptr s.rptr fourth ∧ fourth.wchg = true := by
  obtain ⟨hcfg, hreset, hrptr, hwsync⟩ :=
    (consumerKept_drivePin b false s).trans (consumerKept_evEdges .current 4 (drivePin b false s))
  rw [← hfourth] at hcfg hreset hrptr hwsync
  rw [Function.iterate_succ_apply'] at hfourth
  obtain ⟨-, hactive, ⟨hwptr, -⟩, hctrl, haccepted⟩ := press_third_edge hev hpresent hidle rfl
  obtain ⟨⟨hdepth, -⟩, -⟩ := (Config.wf_iff s.cfg).1 hwf
  have hnothing : occupancy s = 0 := by
    rw [occupancy, hempty, BitVec.sub_self]
    rfl
  rw [if_pos (by omega)] at haccepted
  obtain ⟨hnext, hwritten⟩ := evEdge_writes hactive haccepted .current
  obtain ⟨-, hctrl', -⟩ := evEdge_keeps hactive .current
  rw [hwptr, hempty] at hnext hwritten
  rw [hempty] at hsync
  subst hfourth
  refine ⟨⟨hreset.trans hcore, hcfg, hctrl'.trans hctrl, hrptr, hnext, ?token, hwsync.trans hsync⟩,
    evEdge_wchg_of_accepted hactive haccepted .current⟩
  case token => rw [hwritten, if_pos rfl]

end Sys2Proof.Machine

namespace Sys2Proof.Proofs

open Sys2Proof.Machine

/-- Settles O24, by the cases of what a step can run: an edge of either clock, a pin, or a reset. -/
theorem everyStepKeepsFifoPositionsOrdered : Obligations.EveryStepKeepsFifoPositionsOrdered :=
  fun _ _ => step_keeps_ordered

/-- Settles O18: nothing is accepted, so the edge moves the capture chain, the synchroniser and the ghost counter. -/
theorem fullProducerViewDropsTheEvent : Obligations.FullProducerViewDropsTheEvent := by
  intro s draw b hactive htaken hfull t
  have hnone : accepted s = none := accepted_eq_none_of_full hfull
  have hdrops := dropsNow_of_fullDrop htaken hnone
  have ht : t = _ := (evEdge_of_active hactive draw).trans (evStep_of_accepted_none hnone draw)
  rw [ht]
  refine ⟨rfl, fun _ => rfl, ?pend, rfl, fun _ => ⟨rfl, rfl, rfl⟩, rfl, ?counted, fun hquiet => ?once⟩
  case pend =>
    rw [perButton_forButtons]
    exact nextPend_of_taken htaken
  case counted =>
    change s.drops < s.drops + dropsNow s
    omega
  case once =>
    change s.drops + dropsNow s = s.drops + 1
    rw [hdrops, hquiet, hquiet, hquiet]
    rfl

/-- Settles O22: the token passes the two synchroniser stages at the first two edges that sample it, and the next edge
pops it. -/
theorem eventIsDispatchedAtTheThirdCoreEdge : Obligations.EventIsDispatchedAtTheThirdCoreEdge := by
  intro s b k1 k2 k3 k4 hwf hev hcore hpresent hidle hempty hsync u two three lateThree lateFour
  obtain ⟨hlone, hchanged⟩ := loneToken_of_press hwf hev hcore hpresent hidle hempty hsync (fourth := u) rfl
  have holder : samplePtr u.wchg .older (s.rptr + 1) = gray s.rptr := by
    rw [samplePtr, hchanged, if_pos ⟨rfl, rfl⟩, BitVec.add_sub_cancel]
  have htwo : LoneToken s (tokenOf b) (s.rptr + 1) (s.rptr + 1) two :=
    (hlone.after_current_edge k1).after_current_edge k2
  have hlate : LoneToken s (tokenOf b) (s.rptr + 1) (s.rptr + 1) lateThree :=
    ((hlone.after_hidden_edge holder k1).after_current_edge k2).after_current_edge k3
  obtain ⟨hthreeRptr, hthreeCtrl⟩ := htwo.dispatched k3 .current
  obtain ⟨hfourRptr, hfourCtrl⟩ := hlate.dispatched k4 .current
  obtain ⟨-, -, htwoCtrl, htwoRptr, -⟩ := htwo
  obtain ⟨-, -, hlateCtrl, hlateRptr, -⟩ := hlate
  exact ⟨htwoRptr, htwoCtrl, hthreeRptr, hthreeCtrl, hlateRptr, hlateCtrl, hfourRptr, hfourCtrl⟩

/-- Settles O26: the producer view is full, so the edge accepts nothing. -/
theorem fullFifoDropsEveryEvent : Obligations.FullFifoDropsEveryEvent := by
  intro s draw hwf hordered hactive hfull
  have hnone : accepted s = none := accepted_eq_none_of_occupancy hwf hordered hfull
  obtain ⟨hwptr, hmem⟩ := fifoKept_evEdge hactive hnone draw
  have hunread := unread_evStep hwf hordered draw
  rw [← evEdge_of_active hactive, hnone] at hunread
  exact ⟨hwptr, hmem, hunread.trans (List.append_nil _)⟩

/-- Settles O29, from the runs whose falling edges are spaced. -/
theorem spacedEdgesNeverMergeAndAreTakenInTime : Obligations.SpacedEdgesNeverMergeAndAreTakenInTime := by
  intro s pins draws len hactive hidle hspaced
  have hrun : SpacedRun (evRun pins draws s) len := spacedRun_evRun hactive hidle hspaced
  exact ⟨fun _ _ hlen => hrun.no_merge hlen, fun _ _ hlen hfall => hrun.taken_in_time hlen hfall⟩

/-- Settles O30: with the pins of Mode and Strength low in turn, the two take every edge in turn. -/
theorem fastModeAndStrengthCanStarvePower : Obligations.FastModeAndStrengthCanStarvePower := by
  intro s hactive hpower hpend hstrengthPrev hstrengthSync hmodePrev hmodeSync
  have hstart : Starving (turn 0) (turn 1) s := by
    refine ⟨hactive, ?power, ?mode, ?strength, ⟨hmodePrev, hmodeSync⟩, ⟨hstrengthPrev, hstrengthSync⟩⟩
    case power => exact (waiting_iff s .power).2 ⟨hpower, by rw [hpend]; rfl⟩
    case mode => exact (waiting_iff s .mode).2 ⟨rfl, by rw [hpend]; rfl⟩
    case strength =>
      change waiting s .strength = false
      rw [waiting, hpend]
      rfl
  refine ⟨starvingPins, fun draws n => ?_⟩
  have hstarving := starving_evRun hstart draws n
  have htaken : arbiter (evRun starvingPins draws s n) = some (turn n) := hstarving.arbiter_eq
  obtain ⟨-, hwaits, -⟩ := hstarving
  obtain ⟨-, hpending⟩ := (waiting_iff _ .power).1 hwaits
  refine ⟨hpending, ?_⟩
  simp [htaken, turn_ne_power]

/-- Settles O12: the step runs the edge, and the edge the popped token. -/
theorem stepRunsDecodedTokenAtCoreEdge : Obligations.StepRunsDecodedTokenAtCoreEdge := by
  intro s draw rest tok hwf hactive hstim hfetch
  rw [step_of_coreEdge hwf hactive hstim]
  exact coreStep_of_token (s := { s with stim := rest }) hfetch draw

/-- Settles O17, from what the arbiter takes and what leaves it nothing. -/
theorem arbiterTakesLeastPendingButton : Obligations.ArbiterTakesLeastPendingButton := by
  intro s b
  refine ⟨?some, ?none⟩
  case some => simp only [arbiter_eq_some_iff, waiting_iff, and_imp, and_assoc]
  case none => simp only [arbiter_eq_none_iff, waiting, Bool.and_eq_false_imp]

/-- Settles O19: the latch holds an edge already, so only the ghost counter tells the two edges apart. -/
theorem secondEdgeOfWaitingButtonMerges : Obligations.SecondEdgeOfWaitingButtonMerges := by
  intro s draw b hactive hfall hpend hnot unfallen
  have hmerges : merges s b = true := by simp [merges, hfall, hpend, hnot]
  have hunfallen : ∀ b', fall unfallen b' = (decide (b' ≠ b) && fall s b') := fun b' => fall_withoutFall b b' s
  have hactive' : evActive unfallen := hactive
  obtain ⟨-, hlatched⟩ := (waiting_iff _ b).1 ((waiting_evEdge hactive draw b).2 (.inr hfall))
  refine ⟨?same, fun b' hne => ?other, hlatched, ?counted, ?edges⟩
  case same => simp [hunfallen]
  case other => simp [hunfallen, hne]
  case counted =>
    have hdrops : dropsNow s = dropsNow (withoutFall b s) + 1 := dropsNow_withoutFall hmerges
    rw [evEdge_of_active hactive, evStep_eq, captureButtons_drops]
    omega
  case edges =>
    rw [evEdge_of_active hactive, evEdge_of_active hactive']
    exact evStep_of_merge hmerges (present_of_fall hfall) draw

/-- Settles O20: with an empty consumer view the edge pops nothing. -/
theorem emptyConsumerViewKeepsCtrlAndReadPointer : Obligations.EmptyConsumerViewKeepsCtrlAndReadPointer :=
  fun _ tick draw hactive hempty =>
    ⟨_, coreEdge_of_active hactive tick draw, coreNext_of_empty (fetchToken_eq_none_of_empty hempty) tick draw⟩

/-- Settles O59, from what an edge in reset writes. -/
theorem edgeInResetClearsChangeFlagAndMovesSynchroniser :
    Obligations.EdgeInResetClearsChangeFlagAndMovesSynchroniser := by
  intro s tick draw high
  refine ⟨fun hreset => ?ev, fun hreset => ?core⟩
  case ev =>
    rw [evEdge, if_pos hreset, evResetEdge_eq, high]
    rfl
  case core =>
    rw [coreEdge, if_pos hreset, coreResetEdge_eq, high]
    rfl

end Sys2Proof.Proofs
end

section
/-!
PROOFS. The state machine (spec/41_state_machine.md): the dispatcher writes CTRL alone (R130), each token steps one
field of CTRL (R131 to R137), and a field depends on how many tokens of its kind were dispatched (R138).
-/

namespace Sys2Proof.Machine

/-! ### What one token makes of each field (R131 to R137) -/

/-- Hardwiring PWR leaves STR as it is (R25). -/
@[simp] theorem ctrlStr_hardwirePwr (c : Config) (v : Ctrl) : ctrlStr (hardwirePwr c v) = ctrlStr v := by
  unfold hardwirePwr
  split
  · rfl
  · revert v
    decide

/-- With power nothing is hardwired (R25). -/
theorem hardwirePwr_of_power {c : Config} (hpower : c.hasPower = true) (v : Ctrl) : hardwirePwr c v = v :=
  if_pos hpower

/-- Only the STRENGTH token writes STR (R130 to R137). -/
theorem ctrlStr_storedCtrl (c : Config) (v : Ctrl) (tok : Token) :
    ctrlStr (storedCtrl c v tok) = if tok = 0b01#2 then nextStr (ctrlStr v) else ctrlStr v := by
  unfold storedCtrl
  split
  · next hmode => simp [hmode, advanceMode, ctrlStr_pack]
  split
  · simp [advanceStrength, ctrlStr_pack]
  split
  · split
    · simp [togglePower, ctrlStr_pack]
    · rfl
  · rfl

/-- PWR as read after a POWER token: it flips on a build with power and rests on one without (R135, R136). -/
def nextPwr (c : Config) (p : BitVec 1) : BitVec 1 := if c.hasPower then ~~~ p else p

/-- Only the POWER token writes PWR (R130 to R137); a build without power reads it as 1 throughout (R25). -/
theorem ctrlPwr_hardwirePwr_storedCtrl (c : Config) (v : Ctrl) (tok : Token) :
    ctrlPwr (hardwirePwr c (storedCtrl c v tok)) =
      if tok = 0b10#2 then nextPwr c (ctrlPwr (hardwirePwr c v)) else ctrlPwr (hardwirePwr c v) := by
  cases hpower : c.hasPower with
  | false => simp [ctrlPwr_hardwirePwr hpower, nextPwr, hpower]
  | true =>
    simp only [nextPwr, storedCtrl, hardwirePwr_of_power hpower, hpower, if_true]
    split
    · next hmode => simp [hmode, advanceMode, ctrlPwr_pack]
    split
    · next hstrength => simp [hstrength, advanceStrength, ctrlPwr_pack]
    split
    · rw [togglePower, ctrlPwr_pack]
    · rfl

theorem strengthOf_of_ctrlStr_next {v w : Ctrl} (hnext : ctrlStr w = nextStr (ctrlStr v)) :
    strengthOf w = if strengthOf v < 4 then strengthOf v + 1 else 1 := by
  have hstep : (ctrlStr w).toNat = ((ctrlStr v).toNat + 1) % 4 := by
    rw [hnext, nextStr, BitVec.toNat_ofNat]
    omega
  unfold strengthOf
  split
  · omega
  · omega

theorem toNat_nextMode (m : BitVec 2) : (nextMode m).toNat = (m.toNat + 1) % 3 := by
  rw [nextMode, BitVec.toNat_ofNat]
  omega

/-! ### The state after one token (R130) -/

/-- The state after a token is dispatched: what `exec` answers for it, by `exec_token`. -/
def afterToken (tok : Token) (s : State) : State := { s with ctrl := storedCtrl s.cfg s.ctrl tok }

theorem exec_eq_afterToken (tok : Token) (s : State) : exec (decodeEvt2 tok) s = .next (afterToken tok s) :=
  exec_token tok s

/-- A dispatch leaves every register but CTRL, and every slot of the FIFO (R130). -/
theorem afterToken_frame (tok : Token) (s : State) :
    afterToken tok s = { s with ctrl := (afterToken tok s).ctrl } ∧ SameMem s (afterToken tok s) :=
  ⟨rfl, fun p => memRead_congr rfl rfl p⟩

theorem ctrlMode_afterToken (tok : Token) (s : State) :
    ctrlMode (readCtrl (afterToken tok s)) =
      if tok = 0b00#2 then nextMode (ctrlMode (readCtrl s)) else ctrlMode (readCtrl s) := by
  simp [readCtrl, afterToken, ctrlMode_storedCtrl]

theorem ctrlStr_afterToken (tok : Token) (s : State) :
    ctrlStr (readCtrl (afterToken tok s)) =
      if tok = 0b01#2 then nextStr (ctrlStr (readCtrl s)) else ctrlStr (readCtrl s) := by
  simp [readCtrl, afterToken, ctrlStr_storedCtrl]

theorem ctrlPwr_afterToken (tok : Token) (s : State) :
    ctrlPwr (readCtrl (afterToken tok s)) =
      if tok = 0b10#2 then nextPwr s.cfg (ctrlPwr (readCtrl s)) else ctrlPwr (readCtrl s) :=
  ctrlPwr_hardwirePwr_storedCtrl s.cfg s.ctrl tok

/-- RSVD leaves CTRL as it is (R137). -/
theorem storedCtrl_rsvd (c : Config) (v : Ctrl) : storedCtrl c v 0b11#2 = v := rfl

/-- On a build without power so does POWER (R136). -/
theorem storedCtrl_power_of_absent {c : Config} (hpower : c.hasPower = false) (v : Ctrl) :
    storedCtrl c v 0b10#2 = v := by
  simp [storedCtrl, hpower]

/-- CTRL as stored by a clk_core edge that pops a token, whatever the tick (R112, R130). -/
theorem coreNext_ctrl_of_token {s : State} {tok : Token} (hfetch : fetchToken s = some tok) (tick : Bool)
    (draw : Draw) : (coreNext tick draw s).ctrl = storedCtrl s.cfg s.ctrl tok := by
  rw [coreNext, hfetch]
  rfl

/-! ### A sequence of tokens (R138) -/

/-- The tokens act on the stored CTRL one after the other, and on nothing else (R130). -/
theorem dispatchAll_eq (l : List Token) (s : State) :
    dispatchAll l s = { s with ctrl := l.foldl (storedCtrl s.cfg) s.ctrl } := by
  induction l generalizing s with
  | nil => rfl
  | cons tok rest ih =>
    rw [dispatchAll, exec_token]
    exact ih _

theorem readCtrl_dispatchAll (l : List Token) (s : State) :
    readCtrl (dispatchAll l s) = hardwirePwr s.cfg (l.foldl (storedCtrl s.cfg) s.ctrl) := by
  rw [dispatchAll_eq]
  rfl

/-- A field that one kind of token steps and the others leave is stepped once per token of that kind. -/
theorem field_foldl_storedCtrl {α : Type} {c : Config} {field : Ctrl → α} {kind : Token} {next : α → α}
    (hfield : ∀ v tok, field (storedCtrl c v tok) = if tok = kind then next (field v) else field v)
    (l : List Token) (v : Ctrl) :
    field (l.foldl (storedCtrl c) v) = next^[l.count kind] (field v) := by
  induction l generalizing v with
  | nil => rfl
  | cons tok rest ih =>
    rw [List.foldl_cons, ih, hfield]
    by_cases hkind : tok = kind
    · rw [if_pos hkind, hkind, List.count_cons_self, Function.iterate_succ_apply]
    · rw [if_neg hkind, List.count_cons_of_ne hkind]

/-- CTRL after a sequence of tokens: each field stepped as often as its kind of token occurs (R138). -/
theorem readCtrl_dispatchAll_eq_pack (l : List Token) (s : State) :
    readCtrl (dispatchAll l s) =
      packCtrl ((nextPwr s.cfg)^[l.count 0b10#2] (ctrlPwr (readCtrl s)))
        (nextMode^[l.count 0b00#2] (ctrlMode (readCtrl s))) (nextStr^[l.count 0b01#2] (ctrlStr (readCtrl s))) := by
  have hpwr := field_foldl_storedCtrl (field := fun v => ctrlPwr (hardwirePwr s.cfg v))
    (ctrlPwr_hardwirePwr_storedCtrl s.cfg) l s.ctrl
  have hmode := field_foldl_storedCtrl (ctrlMode_storedCtrl s.cfg) l s.ctrl
  have hstr := field_foldl_storedCtrl (ctrlStr_storedCtrl s.cfg) l s.ctrl
  rw [readCtrl_dispatchAll, ← pack_fields (hardwirePwr s.cfg _), hpwr, ctrlMode_hardwirePwr, hmode,
    ctrlStr_hardwirePwr, hstr, readCtrl, ctrlMode_hardwirePwr, ctrlStr_hardwirePwr]

/-! ### The periods of the three steps (R138) -/

/-- Three MODE tokens lead a legal mode back to itself; the undefined 0b11 is never reached again (R132). -/
theorem nextMode_periodic {m : BitVec 2} (hlegal : m ≠ 0b11#2) : Function.IsPeriodicPt nextMode 3 m := by
  have hcycle : ∀ m : BitVec 2, m ≠ 0b11#2 → nextMode^[3] m = m := by decide
  exact hcycle m hlegal

theorem nextStr_periodic (str : BitVec 2) : Function.IsPeriodicPt nextStr 4 str := by
  have hcycle : ∀ str : BitVec 2, nextStr^[4] str = str := by decide
  exact hcycle str

theorem nextPwr_periodic (c : Config) (p : BitVec 1) : Function.IsPeriodicPt (nextPwr c) 2 p := by
  change nextPwr c (nextPwr c p) = p
  cases hpower : c.hasPower with
  | false => simp [nextPwr, hpower]
  | true => simp [nextPwr, hpower]

/-- Two numbers of steps that agree modulo a period lead to the same value. -/
theorem iterate_eq_of_mod_eq {α : Type} {f : α → α} {n a b : Nat} {x : α} (hperiod : Function.IsPeriodicPt f n x)
    (hmod : a % n = b % n) : f^[a] x = f^[b] x := by
  rw [← hperiod.iterate_mod_apply a, hmod, hperiod.iterate_mod_apply]

end Sys2Proof.Machine

namespace Sys2Proof.Proofs

open Sys2Proof.Machine

/-- Settles O31: each field is stepped by one kind of token, with period 3, 4 or 2. -/
theorem ctrlDependsOnlyOnTokenCounts : Obligations.CtrlDependsOnlyOnTokenCounts := by
  intro s l l' hlegal hmode hstr hpwr
  rw [readCtrl_dispatchAll_eq_pack, readCtrl_dispatchAll_eq_pack, iterate_eq_of_mod_eq (nextPwr_periodic _ _) hpwr,
    iterate_eq_of_mod_eq (nextMode_periodic hlegal) hmode, iterate_eq_of_mod_eq (nextStr_periodic _) hstr]

/-- Settles O32, from the closed form of a sequence of dispatches. -/
theorem dispatchesChangeNothingButCtrl : Obligations.DispatchesChangeNothingButCtrl := by
  intro s l
  rw [dispatchAll_eq]

/-- Settles O1, field by field. -/
theorem modeTokenStepsModeModuloThree : Obligations.ModeTokenStepsModeModuloThree := by
  refine ⟨rfl, fun s => ⟨afterToken 0b00#2 s, exec_eq_afterToken 0b00#2 s, ?mode, ctrlStr_afterToken _ s,
    ctrlPwr_afterToken _ s, afterToken_frame _ s⟩⟩
  case mode => rw [ctrlMode_afterToken, if_pos rfl, toNat_nextMode]

/-- Settles O2, field by field. -/
theorem strengthTokenStepsStrengthAndWraps : Obligations.StrengthTokenStepsStrengthAndWraps :=
  ⟨rfl, fun s => ⟨afterToken 0b01#2 s, exec_eq_afterToken 0b01#2 s,
    strengthOf_of_ctrlStr_next (ctrlStr_afterToken 0b01#2 s), ctrlMode_afterToken _ s, ctrlPwr_afterToken _ s,
    afterToken_frame _ s⟩⟩

/-- Settles O3, by the kind of build. -/
theorem powerTokenTogglesPowerWherePresent : Obligations.PowerTokenTogglesPowerWherePresent := by
  refine fun s => ⟨afterToken 0b10#2 s, exec_eq_afterToken 0b10#2 s,
    fun hpower => ⟨?flips, ctrlMode_afterToken _ s, ctrlStr_afterToken _ s⟩, fun hpower => ?rests,
    afterToken_frame _ s⟩
  case flips => rw [ctrlPwr_afterToken, if_pos rfl, nextPwr, if_pos hpower]
  case rests => exact readCtrl_congr rfl (storedCtrl_power_of_absent hpower s.ctrl)

/-- Settles O4: the arbiter selects present buttons only, and the popped token stores CTRL as it was. -/
theorem powerTokenIsConsumedWithoutPower : Obligations.PowerTokenIsConsumedWithoutPower := by
  refine ⟨rfl, by decide, by decide, fun s hpower => ⟨fun htaken => ?absent, ctrlPwr_readCtrl hpower,
    fun tick draw hactive hfetch => ?popped⟩⟩
  case absent =>
    obtain ⟨hpresent, -⟩ := arbiter_eq_some htaken
    exact absurd (hpower.symm.trans hpresent) Bool.false_ne_true
  case popped =>
    obtain ⟨hctrl, hrptr⟩ := coreNext_of_token hfetch tick draw
    exact ⟨_, coreEdge_of_active hactive tick draw, hctrl.trans (storedCtrl_power_of_absent hpower _), hrptr⟩

/-- Settles O5: the popped token stores CTRL as it was. -/
theorem reservedTokenIsConsumedWithoutEffect : Obligations.ReservedTokenIsConsumedWithoutEffect := by
  refine ⟨rfl, fun b => ?unwritten, fun s => rfl, fun s tick draw hactive hfetch => ?popped⟩
  case unwritten =>
    cases b with
    | mode | strength | power => decide
  case popped =>
    have hctrl := coreNext_ctrl_of_token hfetch tick draw
    obtain ⟨-, hrptr⟩ := coreNext_of_token hfetch tick draw
    exact ⟨_, coreEdge_of_active hactive tick draw, hctrl.trans (storedCtrl_rsvd _ _), hrptr⟩

end Sys2Proof.Proofs
end

section
/-!
PROOFS. The output generator (spec/42_output_generator.md): the range of `scale` (R154, R159), what each control tick
emits (R150 to R157), the order in which consecutive ticks walk a table (R160, R161), and the ticks a phase counts
(R158).
-/

namespace Sys2Proof

/-- The selection of TICK_PULSED is its one word (R86). -/
theorem decodeTicksel3_eq_tickPulsed (sel : TickSel) : decodeTicksel3 sel = .tickPulsed ↔ sel = 0b101#3 := by
  revert sel
  decide

/-- The selection of TICK_WAVEFORM is its one word (R86). -/
theorem decodeTicksel3_eq_tickWaveform (sel : TickSel) : decodeTicksel3 sel = .tickWaveform ↔ sel = 0b110#3 := by
  revert sel
  decide

end Sys2Proof

namespace Sys2Proof.Machine

/-! ### The selection in CTRL (R86) -/

/-- The low bits of the selection are MODE (R80, R86). -/
@[simp] theorem tickSelOf_lowBits (c : Ctrl) : (tickSelOf c).extractLsb' 0 2 = ctrlMode c := by
  revert c
  decide

theorem decodeTicksel3_of_powerOff {c : Ctrl} (hoff : ctrlPwr c = 0#1) :
    decodeTicksel3 (tickSelOf c) = .tickOff (ctrlMode c) :=
  (decodeTicksel3_eq_tickOff _ _).2 ⟨(tickSelOf_topBit c).trans hoff, tickSelOf_lowBits c⟩

theorem decodeTicksel3_eq_tickUndef (c : Ctrl) :
    decodeTicksel3 (tickSelOf c) = .tickUndef ↔ ctrlPwr c = 1#1 ∧ ctrlMode c = 0b11#2 := by
  revert c
  decide

/-- STR is no part of the selection, hardwired PWR or not (R25, R80). -/
theorem tickSelOf_hardwirePwr_of_str (c : Config) (v : Ctrl) (str : BitVec 2) :
    tickSelOf (hardwirePwr c (packCtrl (ctrlPwr v) (ctrlMode v) str)) = tickSelOf (hardwirePwr c v) := by
  unfold hardwirePwr
  split
  · revert v str
    decide
  · revert v str
    decide

/-! ### `scale` (R154) -/

theorem scale_zero (c : Config) : scale c 0 = 0 := by
  simp [scale]

theorem scale_eq_max (c : Config) (v : Nat) :
    (scale c v : Int) = max 0 ((c.fullScale * v / 4 : Nat) - (c.dutyBias : Int)) := by
  unfold scale
  omega

/-- Up to STRENGTH_MAX the quotient is at most FULL_SCALE. -/
theorem scale_le {c : Config} {v : Nat} (hv : v ≤ 4) : scale c v ≤ c.fullScale - c.dutyBias := by
  have hprod : c.fullScale * v ≤ c.fullScale * 4 := Nat.mul_le_mul_left _ hv
  unfold scale
  omega

/-- A larger factor adds FULL_SCALE to the product, so at least 1 to the quotient; a quotient of at least 1 is not
clamped (R9). -/
theorem scale_strictMono {c : Config} (hwf : c.wf = true) {v w : Nat} (hv : 1 ≤ v) (hvw : v < w) :
    scale c v < scale c w := by
  obtain ⟨-, hscale, -, hbias, -⟩ := (Config.wf_iff c).1 hwf
  have hfirst : c.fullScale ≤ c.fullScale * v := Nat.le_mul_of_pos_right _ hv
  have hnext : c.fullScale * v + c.fullScale ≤ c.fullScale * w := Nat.mul_le_mul_left _ hvw
  unfold scale
  omega

/-! ### The tables and the steps of their phases (R61, R153, R155) -/

theorem pulseFactor_eq (i : Nat) : pulseFactor i = if i % 20 < 10 then 4 else 1 := by
  have table : ∀ k : Fin 20, (pulseLut[k.val]).toNat = if k.val < 10 then 4 else 1 := by decide
  exact table ⟨i % 20, Nat.mod_lt i (by decide)⟩

theorem sineLut_getElem?_toNat (c : Config) (w : WavePhase) :
    c.sineLut.toList[w.toNat]?.map BitVec.toNat = some (sineDuty c w) := by
  have hin : w.toNat < c.sineLut.toList.length := by simpa using w.isLt
  rw [List.getElem?_eq_getElem hin]
  simp [sineDuty, sineEntry]

theorem toNat_nextWph (w : WavePhase) : (nextWph w).toNat = (w.toNat + 1) % 128 := by
  rw [nextWph, BitVec.toNat_ofNat]
  omega

theorem toNat_nextPph (p : PulsePhase) : (nextPph p).toNat = (p.toNat + 1) % 20 := by
  rw [nextPph, BitVec.toNat_ofNat]
  omega

theorem toNat_iterate_nextWph (n : Nat) (w : WavePhase) : (nextWph^[n] w).toNat = (w.toNat + n) % 128 := by
  induction n with
  | zero => exact (Nat.mod_eq_of_lt w.isLt).symm
  | succ n ih =>
    rw [Function.iterate_succ_apply', toNat_nextWph, ih]
    omega

/-- The first step brings an upset phase below 20 (R153). -/
theorem toNat_iterate_nextPph_succ (n : Nat) (p : PulsePhase) :
    (nextPph^[n + 1] p).toNat = (p.toNat + (n + 1)) % 20 := by
  induction n with
  | zero => exact toNat_nextPph p
  | succ n ih =>
    rw [Function.iterate_succ_apply', toNat_nextPph, ih]
    omega

theorem toNat_iterate_nextPph (n : Nat) {p : PulsePhase} (hp : p.toNat < 20) :
    (nextPph^[n] p).toNat = (p.toNat + n) % 20 := by
  cases n with
  | zero => exact (Nat.mod_eq_of_lt hp).symm
  | succ n => exact toNat_iterate_nextPph_succ n p

/-! ### The Pulsed and the Waveform tick as functions of the state (R153, R155) -/

/-- The state after a Pulsed tick: what `exec` answers for it, by `exec_tickPulsed`. -/
def afterPulsed (s : State) : State :=
  capture (some (scale s.cfg (pulseFactor (nextPph s.pph).toNat))) (writePph (nextPph s.pph) s)

/-- The state after a Waveform tick: what `exec` answers for it, by `exec_tickWaveform`. -/
def afterWaveform (s : State) : State :=
  capture (some (sineDuty s.cfg (nextWph s.wph))) (writeWph (nextWph s.wph) s)

theorem exec_tickPulsed (s : State) : exec .tickPulsed s = .next (afterPulsed s) := rfl

theorem exec_tickWaveform (s : State) : exec .tickWaveform s = .next (afterWaveform s) := rfl

@[simp] theorem afterPulsed_cfg (s : State) : (afterPulsed s).cfg = s.cfg := rfl
@[simp] theorem afterPulsed_pph (s : State) : (afterPulsed s).pph = nextPph s.pph := rfl
@[simp] theorem afterWaveform_cfg (s : State) : (afterWaveform s).cfg = s.cfg := rfl
@[simp] theorem afterWaveform_wph (s : State) : (afterWaveform s).wph = nextWph s.wph := rfl

/-- The factor is the one of the phase after the tick (R61, R153). -/
theorem afterPulsed_dreg (s : State) :
    (afterPulsed s).dreg = scale s.cfg (if (afterPulsed s).pph.toNat < 10 then 4 else 1) := by
  have hindex : (nextPph s.pph).toNat < 20 := by
    rw [toNat_nextPph]
    exact Nat.mod_lt _ (by decide)
  rw [afterPulsed, capture_some_dreg, pulseFactor_eq, Nat.mod_eq_of_lt hindex]
  rfl

/-- The entry is the one of the phase after the tick (R155). -/
theorem afterWaveform_dreg (s : State) :
    s.cfg.sineLut.toList[(afterWaveform s).wph.toNat]?.map BitVec.toNat = some (afterWaveform s).dreg :=
  sineLut_getElem?_toNat s.cfg (nextWph s.wph)

/-! ### Consecutive ticks (R160, R161) -/

/-- Running an operation n times is iterating what `exec` answers for it. -/
theorem execTimes_eq_iterate {i : Instr} {f : State → State} (hexec : ∀ s, exec i s = .next (f s)) (n : Nat)
    (s : State) : execTimes i n s = f^[n] s := by
  induction n with
  | zero => rfl
  | succ n ih => rw [execTimes, hexec, ih, Function.iterate_succ_apply']

/-- A register that each run of an operation steps has taken n steps after n runs. -/
theorem register_iterate {α : Type} {reg : State → α} {f : State → State} {next : α → α}
    (hstep : ∀ s, reg (f s) = next (reg s)) (n : Nat) (s : State) : reg (f^[n] s) = next^[n] (reg s) :=
  Function.Semiconj.iterate_right hstep n s

theorem cfg_iterate {f : State → State} (hstep : ∀ s, (f s).cfg = s.cfg) (n : Nat) (s : State) :
    (f^[n] s).cfg = s.cfg := by
  rw [register_iterate (next := id) hstep, Function.iterate_id, id]

/-! ### The phases over any run (R158) -/

theorem tickWph_eq_iterate (sel : TickSel) (w : WavePhase) :
    tickWph sel w = nextWph^[(decide (decodeTicksel3 sel = .tickWaveform)).toNat] w := by
  simp only [decodeTicksel3_eq_tickWaveform]
  by_cases hsel : sel = 0b110#3
  · simp [tickWph, hsel]
  · simp [tickWph, hsel]

theorem tickPph_eq_iterate (sel : TickSel) (p : PulsePhase) :
    tickPph sel p = nextPph^[(decide (decodeTicksel3 sel = .tickPulsed)).toNat] p := by
  simp only [decodeTicksel3_eq_tickPulsed]
  by_cases hsel : sel = 0b101#3
  · simp [tickPph, hsel]
  · simp [tickPph, hsel]

/-- Driving a pin leaves both phases. -/
theorem drivePin_phases (b : Button) (level : Bool) (s : State) :
    (drivePin b level s).wph = s.wph ∧ (drivePin b level s).pph = s.pph := by
  unfold drivePin
  split
  · exact ⟨rfl, rfl⟩
  · exact ⟨rfl, rfl⟩

/-- A clk_ev edge leaves both phases, in reset or out of it (R211). -/
theorem evEdge_phases (draw : Draw) (s : State) : (evEdge draw s).wph = s.wph ∧ (evEdge draw s).pph = s.pph := by
  unfold evEdge
  split
  · rw [evResetEdge_eq]
    exact ⟨rfl, rfl⟩
  · rw [evStep_frame]
    exact ⟨rfl, rfl⟩

/-- One act steps each phase as often as it ticks in the phase's own mode: once, or not at all. -/
theorem afterAct_phases {a : EnvAct} (hquiet : drivesReset a = false) (s : State) :
    (afterAct a s).wph = nextWph^[(ticksAs .tickWaveform a s).toNat] s.wph ∧
      (afterAct a s).pph = nextPph^[(ticksAs .tickPulsed a s).toNat] s.pph := by
  cases a with
  | pin b level => exact drivePin_phases b level s
  | rstN level => cases hquiet
  | evEdge draw => exact evEdge_phases draw s
  | coreEdge tick draw =>
    rw [afterAct_coreEdge, ticksAs, ticksAs]
    cases coreInReset s with
    | true =>
      rw [coreResetEdge_eq, Bool.not_true, Bool.and_false]
      exact ⟨rfl, rfl⟩
    | false =>
      cases tick with
      | false => exact ⟨rfl, rfl⟩
      | true => exact ⟨tickWph_eq_iterate _ s.wph, tickPph_eq_iterate _ s.pph⟩

theorem afterActs_phases {acts : List EnvAct} {s : State} (hquiet : (acts.all fun a => !drivesReset a) = true) :
    (afterActs acts s).wph = nextWph^[ticksIn .tickWaveform acts s] s.wph ∧
      (afterActs acts s).pph = nextPph^[ticksIn .tickPulsed acts s] s.pph := by
  induction acts generalizing s with
  | nil => exact ⟨rfl, rfl⟩
  | cons a rest ih =>
    rw [List.all_cons, Bool.and_eq_true, Bool.not_eq_true'] at hquiet
    obtain ⟨hfirst, hrest⟩ := hquiet
    obtain ⟨hwph, hpph⟩ := afterAct_phases hfirst s
    obtain ⟨hwphRest, hpphRest⟩ := ih (s := afterAct a s) hrest
    simp only [afterActs, ticksIn, Nat.add_comm (Bool.toNat _), Function.iterate_add_apply]
    exact ⟨hwphRest.trans (congrArg _ hwph), hpphRest.trans (congrArg _ hpph)⟩

/-! ### What an edge emits: STR and the undefined mode (R156, R157) -/

/-- Only a Normal tick reads CTRL for more than the selection (R152, R156). -/
theorem tickDuty_ctrl_irrelevant {sel : TickSel} (hsel : sel ≠ 0b100#3) (c : Config) (v v' : Ctrl) (w : WavePhase)
    (p : PulsePhase) : tickDuty sel c v w p = tickDuty sel c v' w p := by
  simp only [tickDuty, if_neg hsel]

/-- The state with another strength code in CTRL. -/
def withStr (str : BitVec 2) (s : State) : State :=
  { s with ctrl := packCtrl (ctrlPwr s.ctrl) (ctrlMode s.ctrl) str }

@[simp] theorem withStr_dreg (str : BitVec 2) (s : State) : (withStr str s).dreg = s.dreg := rfl
@[simp] theorem withStr_wph (str : BitVec 2) (s : State) : (withStr str s).wph = s.wph := rfl
@[simp] theorem withStr_pph (str : BitVec 2) (s : State) : (withStr str s).pph = s.pph := rfl

theorem tickSelOf_withStr (str : BitVec 2) (s : State) :
    tickSelOf (readCtrl (withStr str s)) = tickSelOf (readCtrl s) :=
  tickSelOf_hardwirePwr_of_str s.cfg s.ctrl str

theorem edgeDuty_withStr {s : State} (hsel : tickSelOf (readCtrl s) ≠ 0b100#3) (str : BitVec 2) (tick : Bool) :
    edgeDuty tick (withStr str s) = edgeDuty tick s := by
  rw [edgeDuty, edgeDuty, tickSelOf_withStr]
  exact if_congr Iff.rfl (tickDuty_ctrl_irrelevant hsel _ _ _ _ _) rfl

theorem coreNext_dreg (tick : Bool) (draw : Draw) (s : State) :
    (coreNext tick draw s).dreg = (edgeDuty tick s).getD s.dreg := rfl

theorem coreNext_s1v (tick : Bool) (draw : Draw) (s : State) :
    (coreNext tick draw s).s1v = (edgeDuty tick s).isSome := rfl

theorem coreNext_wph (tick : Bool) (draw : Draw) (s : State) :
    (coreNext tick draw s).wph = if tick then tickWph (tickSelOf (readCtrl s)) s.wph else s.wph := rfl

theorem coreNext_pph (tick : Bool) (draw : Draw) (s : State) :
    (coreNext tick draw s).pph = if tick then tickPph (tickSelOf (readCtrl s)) s.pph else s.pph := rfl

theorem edgeDuty_of_undef {s : State} (hsel : tickSelOf (readCtrl s) = 0b111#3) : edgeDuty true s = none := by
  rw [edgeDuty, if_pos rfl, hsel]
  rfl

theorem coreNext_active {s : State} (hactive : coreActive s) (tick : Bool) (draw : Draw) :
    coreActive (coreNext tick draw s) := hactive

end Sys2Proof.Machine

namespace Sys2Proof.Proofs

open Sys2Proof.Machine

/-- Settles O33, from the strict growth of the quotient. -/
theorem normalDutyStrictlyIncreasesWithStrength : Obligations.NormalDutyStrictlyIncreasesWithStrength :=
  fun _ hwf _ _ hv hvw _ => scale_strictMono hwf hv hvw

/-- Settles O34, bound by bound. -/
theorem scaledDutyFitsItsRegister : Obligations.ScaledDutyFitsItsRegister :=
  fun c hwf => ⟨scale_zero c, fun _ hv => ⟨scale_le hv, scale_fits hwf hv⟩⟩

/-- Settles O35: each tick steps WPH and emits the entry there. -/
theorem waveformTicksReproduceTheTableInOrder : Obligations.WaveformTicksReproduceTheTableInOrder := by
  intro s j
  rw [execTimes_eq_iterate exec_tickWaveform]
  have hphase : (afterWaveform^[j + 1] s).wph.toNat = (s.wph.toNat + (j + 1)) % 128 := by
    rw [register_iterate afterWaveform_wph, toNat_iterate_nextWph]
  have hcfg : (afterWaveform^[j] s).cfg = s.cfg := cfg_iterate afterWaveform_cfg j s
  refine ⟨hphase, ?entry⟩
  case entry =>
    rw [← hphase, ← hcfg, Function.iterate_succ_apply']
    exact afterWaveform_dreg _

/-- Settles O36: each tick steps PPH and emits the scaled factor there. -/
theorem pulsedTicksReproduceThePatternInOrder : Obligations.PulsedTicksReproduceThePatternInOrder := by
  intro s j
  rw [execTimes_eq_iterate exec_tickPulsed]
  have hphase : (afterPulsed^[j + 1] s).pph.toNat = (s.pph.toNat + (j + 1)) % 20 := by
    rw [register_iterate afterPulsed_pph, toNat_iterate_nextPph_succ]
  have hcfg : (afterPulsed^[j] s).cfg = s.cfg := cfg_iterate afterPulsed_cfg j s
  refine ⟨hphase, ?factor⟩
  case factor =>
    rw [← hphase, ← hcfg, Function.iterate_succ_apply']
    exact afterPulsed_dreg _

/-- Settles O37: over the run each phase takes one step per tick of its own mode. -/
theorem phaseCountersCountTheirOwnTicks : Obligations.PhaseCountersCountTheirOwnTicks := by
  intro acts s hquiet
  obtain ⟨hwph, hpph⟩ := afterActs_phases (s := s) hquiet
  refine ⟨?wave, fun hnone => ?kept, fun hlegal => ?pulse⟩
  case wave => rw [hwph, toNat_iterate_nextWph]
  case kept =>
    rw [hpph, hnone]
    rfl
  case pulse => rw [hpph, toNat_iterate_nextPph _ hlegal]

/-- Settles O38: the edge reads the same selection and emits the same duty with any strength code. -/
theorem strengthDoesNotReachPulsedOrWaveformOutput : Obligations.StrengthDoesNotReachPulsedOrWaveformOutput := by
  intro s str tick draw hactive hsel
  have hnormal : tickSelOf (readCtrl s) ≠ 0b100#3 := by
    rcases hsel with hpulsed | hwaveform
    · simp [hpulsed]
    · simp [hwaveform]
  have hactive' : coreActive (withStr str s) := hactive
  have hduty := edgeDuty_withStr hnormal str tick
  refine ⟨coreNext tick draw s, coreNext tick draw (withStr str s), coreEdge_of_active hactive tick draw,
    coreEdge_of_active hactive' tick draw, ?dreg, ?s1v, rfl, ?wph, ?pph⟩
  case dreg => rw [coreNext_dreg, coreNext_dreg, hduty, withStr_dreg]
  case s1v => rw [coreNext_s1v, coreNext_s1v, hduty]
  case wph => rw [coreNext_wph, coreNext_wph, tickSelOf_withStr, withStr_wph]
  case pph => rw [coreNext_pph, coreNext_pph, tickSelOf_withStr, withStr_pph]

/-- Settles O40: the tick emits nothing, so the set strobe stays low, and the commit strobe follows it by one edge. -/
theorem undefinedModeTickIsFollowedByNoStrobe : Obligations.UndefinedModeTickIsFollowedByNoStrobe := by
  intro s d1 d2 hactive hsel
  have hnothing : edgeDuty true s = none := edgeDuty_of_undef hsel
  have hdreg : (coreNext true d1 s).dreg = s.dreg := by rw [coreNext_dreg, hnothing, Option.getD_none]
  have hset : (coreNext true d1 s).s1v = false := by rw [coreNext_s1v, hnothing, Option.isSome_none]
  exact ⟨coreNext true d1 s, coreNext false d2 (coreNext true d1 s), coreEdge_of_active hactive true d1,
    coreEdge_of_active (coreNext_active hactive true d1) false d2, fun _ => ⟨hset, hdreg, hset, hdreg⟩⟩

/-- Settles O6: a selection with its top bit clear is TICK_OFF, and its duty is 0. -/
theorem powerOffTickEmitsZeroAndFreezesPhases : Obligations.PowerOffTickEmitsZeroAndFreezesPhases :=
  ⟨fun _ s => ⟨capture (some 0) s, rfl, rfl, rfl, rfl, memRead_capture _ s⟩,
    fun _ hoff => decodeTicksel3_of_powerOff hoff, fun _ hpower => decodeTicksel3_ne_tickOff hpower⟩

/-- Settles O7: the emitted duty is `scale` of the strength. -/
theorem normalTickEmitsScaledStrength : Obligations.NormalTickEmitsScaledStrength :=
  ⟨rfl, fun s => ⟨capture (some (scale s.cfg (strengthOf (readCtrl s)))) s, rfl, rfl, scale_eq_max _ _, rfl, rfl,
    memRead_capture _ s⟩⟩

/-- Settles O8, by the half of the table that the new phase points to. -/
theorem pulsedTickAdvancesThenEmitsTableFactor : Obligations.PulsedTickAdvancesThenEmitsTableFactor := by
  refine ⟨rfl, fun s => ⟨afterPulsed s, exec_tickPulsed s, toNat_nextPph s.pph, fun hlow => ?high4, fun hhigh => ?low1,
    rfl, rfl, fun _ => rfl⟩⟩
  case high4 => rw [afterPulsed_dreg, if_pos (Nat.lt_succ_of_le hlow)]
  case low1 => rw [afterPulsed_dreg, if_neg (not_lt.2 hhigh)]

/-- Settles O9: the entry is read at the stepped phase. -/
theorem waveformTickAdvancesThenEmitsSineEntry : Obligations.WaveformTickAdvancesThenEmitsSineEntry := by
  refine ⟨rfl, fun s => ⟨afterWaveform s, exec_tickWaveform s, toNat_nextWph s.wph, ?entry, rfl, rfl, fun _ => rfl⟩⟩
  case entry =>
    rw [← toNat_nextWph]
    exact afterWaveform_dreg s

/-- Settles O10: nothing is captured, and only the selection 111 is left for TICK_UNDEF. -/
theorem undefinedModeTickChangesNoOutput : Obligations.UndefinedModeTickChangesNoOutput :=
  ⟨fun s => ⟨capture none s, rfl, rfl, rfl, rfl, rfl, rfl, memRead_capture _ s⟩, decodeTicksel3_eq_tickUndef⟩

/-- Settles O13: the step runs the edge, and the edge the selected tick alone. -/
theorem stepRunsSelectedTickAtCoreEdge : Obligations.StepRunsSelectedTickAtCoreEdge := by
  intro s draw rest hwf hactive hstim hfetch
  rw [step_of_coreEdge hwf hactive hstim]
  exact coreStep_of_tick (s := { s with stim := rest }) hfetch draw

end Sys2Proof.Proofs
end

section
/-!
PROOFS. The duty pipeline (spec/43_duty_pipeline.md): which ticks raise the set strobe (R180, R182), and what an edge
without a tick does at the ports: it ends the set strobe, turns it into the commit strobe and holds the duty (R181,
R183, R186).
-/

namespace Sys2Proof.Machine

/-! ### The tick edge (R150, R180) -/

/-- Every selection but that of TICK_UNDEF emits a duty (R150). -/
theorem tickDuty_isSome {sel : TickSel} (hdefined : decodeTicksel3 sel ≠ .tickUndef) (c : Config) (v : Ctrl)
    (w : WavePhase) (p : PulsePhase) : (tickDuty sel c v w p).isSome = true := by
  unfold tickDuty
  split_ifs with hoff hnormal hpulsed hwaveform
  case pos => rfl
  case pos => rfl
  case pos => rfl
  case pos => rfl
  case neg => exact absurd (by simp [decodeTicksel3, hoff, hnormal, hpulsed, hwaveform]) hdefined

/-- A tick that emits raises the set strobe of every channel (R180, R182). -/
theorem dutyWe_coreNext_of_emit {s : State} (hemits : decodeTicksel3 (tickSelOf (readCtrl s)) ≠ .tickUndef)
    (draw : Draw) (ch : Fin Config.numChannels) : dutyWe (coreNext true draw s) ch = true :=
  (coreNext_s1v true draw s).trans (tickDuty_isSome hemits _ _ _ _)

/-! ### The ports in the cycle after an edge (R180 to R183, R186) -/

/-- An edge without a tick ends the set strobe. -/
@[simp] theorem dutyWe_coreNext_quiet (draw : Draw) (s : State) (ch : Fin Config.numChannels) :
    dutyWe (coreNext false draw s) ch = false := rfl

/-- The commit strobe is the set strobe of the cycle before, whether the edge has a tick or not. -/
@[simp] theorem commitO_coreNext (tick : Bool) (draw : Draw) (s : State) (ch : Fin Config.numChannels) :
    commitO (coreNext tick draw s) ch = dutyWe s ch := rfl

/-- An edge without a tick holds the duty. -/
@[simp] theorem dutyO_coreNext_quiet (draw : Draw) (s : State) (ch : Fin Config.numChannels) :
    dutyO (coreNext false draw s) ch = dutyO s ch := rfl

end Sys2Proof.Machine

namespace Sys2Proof.Proofs

open Sys2Proof.Machine

/-- Settles O39: the tick raises the set strobe; the first edge without a tick hands it to the commit strobe, the second
ends that too, and neither touches the duty. -/
theorem emittedDutyIsSetThenCommittedOnEveryChannel : Obligations.EmittedDutyIsSetThenCommittedOnEveryChannel := by
  intro s d1 d2 d3 hactive hemits
  have hset := coreNext_active hactive true d1
  have hcommit := coreNext_active hset false d2
  refine ⟨_, _, _, coreEdge_of_active hactive true d1, coreEdge_of_active hset false d2,
    coreEdge_of_active hcommit false d3, fun ch => ?ports⟩
  case ports => simp [dutyWe_coreNext_of_emit hemits]

end Sys2Proof.Proofs
end

section
/-!
PROOFS. The edges as whole updates (spec/60_exceptions.md): each right-hand side of a clk_core edge (R218) and of a
clk_ev edge (R217) from the state before it, what stops (R200), and which agent writes a register (R211).
-/

namespace Sys2Proof

/-- `Config.wf` checks the constraints in the words of R9: the largest capacity is 2^PTR_W - 1, a bias is 0 or 1. -/
theorem Config.wf_iff_constraints (c : Config) :
    c.wf = true ↔ 1 ≤ c.fifoDepth ∧ c.fifoDepth ≤ 2 ^ 4 - 1 ∧ 4 ≤ c.fullScale ∧
      c.fullScale - c.dutyBias ≤ 2 ^ c.dutyW - 1 ∧ (c.dutyBias = 0 ∨ c.dutyBias = 1) ∧ 16 ≤ c.dutyW := by
  rw [Config.wf_iff, and_assoc, Nat.le_one_iff_eq_zero_or_eq_one]
  exact Iff.rfl

/-- TICK_UNDEF is selected by its one word (R86). -/
theorem decodeTicksel3_eq_tickUndef_iff (sel : TickSel) : decodeTicksel3 sel = .tickUndef ↔ sel = 0b111#3 := by
  revert sel
  decide

end Sys2Proof

namespace Sys2Proof.Machine

/-! ### What stops a step (R200) -/

theorem step_of_not_wf {s : State} (hill : ¬ s.cfg.wf = true) : step s = .refused .illFormedConfig :=
  if_neg hill

/-- Past the check of the build a step goes on, whether a command waits or the environment acts freely. -/
theorem advance_goes_on (s : State) : ∃ t, advance s = .next t := by
  cases hstim : s.stim with
  | nil => exact ⟨_, (advance_of_stim_nil hstim).trans (runEnv_eq _ _)⟩
  | cons c rest => exact ⟨_, (advance_of_stim_cons hstim).trans (runStim_eq _ _)⟩

/-! ### What a clk_core edge pops and dispatches (R112, R113, R130) -/

theorem fetchToken_of_view {s : State} (hview : 0 < countR s) : fetchToken s = some (memRead s s.rptr) :=
  if_pos hview

/-- The registers of the pop after an edge: with tokens in the consumer view the one at RPTR is dispatched, RPTR steps
and RCHG is set; with an empty view all three stay. -/
theorem coreNext_pop (tick : Bool) (draw : Draw) (s : State) :
    readCtrl (coreNext tick draw s) =
        (if 0 < countR s then storedCtrl s.cfg (readCtrl s) (memRead s s.rptr) else readCtrl s) ∧
      (coreNext tick draw s).rptr = (if 0 < countR s then s.rptr + 1 else s.rptr) ∧
      (coreNext tick draw s).rchg = (if 0 < countR s then true else s.rchg) := by
  by_cases hview : 0 < countR s
  · have hfetch := fetchToken_of_view hview
    obtain ⟨hctrl, hrptr⟩ := coreNext_of_token hfetch tick draw
    have hrchg : (coreNext tick draw s).rchg = true := by rw [coreNext, hfetch, Option.isSome_some, Bool.true_or]
    simp only [if_pos hview]
    exact ⟨hctrl, hrptr, hrchg⟩
  · have hfetch := fetchToken_eq_none_of_empty (Nat.eq_zero_of_not_pos hview)
    obtain ⟨hctrl, hrptr, hrchg⟩ := coreNext_of_empty hfetch tick draw
    simp only [if_neg hview]
    exact ⟨readCtrl_congr rfl hctrl, hrptr, hrchg⟩

/-- On the value CTRL reads as, a token applies its transition as it stands: PWR is hardwired in that value already
(R25, R131 to R137). -/
theorem storedCtrl_readCtrl (s : State) (tok : Token) :
    storedCtrl s.cfg (readCtrl s) tok =
      if tok = 0b00#2 then advanceMode (readCtrl s)
      else if tok = 0b01#2 then advanceStrength (readCtrl s)
      else if tok = 0b10#2 ∧ s.cfg.hasPower = true then togglePower (readCtrl s)
      else readCtrl s := by
  have hread : hardwirePwr s.cfg (readCtrl s) = readCtrl s := hardwirePwr_readCtrl s
  obtain ⟨hmode, hstrength⟩ := hardwirePwr_transition s.cfg (readCtrl s) hread
  rw [storedCtrl, hread, hmode, hstrength]
  cases hpower : s.cfg.hasPower with
  | false => simp
  | true => simp [hardwirePwr_of_power hpower]

/-! ### What a clk_core edge emits (R150 to R157, R180) -/

/-- Only the undefined mode with power on emits nothing (R157). -/
theorem tickDuty_isSome_eq (sel : TickSel) (c : Config) (v : Ctrl) (w : WavePhase) (p : PulsePhase) :
    (tickDuty sel c v w p).isSome = decide (sel ≠ 0b111#3) := by
  by_cases hundef : sel = 0b111#3
  · subst hundef
    rfl
  · rw [tickDuty_isSome (mt (decodeTicksel3_eq_tickUndef_iff sel).1 hundef), decide_eq_true hundef]

theorem edgeDuty_isSome (tick : Bool) (s : State) :
    (edgeDuty tick s).isSome = (tick && decide (tickSelOf (readCtrl s) ≠ 0b111#3)) := by
  cases tick with
  | false => rfl
  | true => exact tickDuty_isSome_eq _ _ _ _ _

/-- What DREG holds after an edge: the emitted duty by selection, its own value where nothing is emitted. -/
theorem edgeDuty_getD (tick : Bool) (s : State) :
    (edgeDuty tick s).getD s.dreg =
      if tick = false then s.dreg
      else if ctrlPwr (readCtrl s) = 0#1 then 0
      else if tickSelOf (readCtrl s) = 0b100#3 then scale s.cfg (strengthOf (readCtrl s))
      else if tickSelOf (readCtrl s) = 0b101#3 then scale s.cfg (pulseFactor (nextPph s.pph).toNat)
      else if tickSelOf (readCtrl s) = 0b110#3 then sineDuty s.cfg (nextWph s.wph)
      else s.dreg := by
  cases tick with
  | false => rfl
  | true =>
    simp only [edgeDuty, if_true, tickDuty, tickSelOf_topBit, Bool.true_eq_false, if_false,
      apply_ite (Option.getD · s.dreg), Option.getD_some, Option.getD_none]

theorem coreNext_wph_eq (tick : Bool) (draw : Draw) (s : State) :
    (coreNext tick draw s).wph =
      if tick = true ∧ tickSelOf (readCtrl s) = 0b110#3 then nextWph s.wph else s.wph :=
  (ite_and ..).symm

theorem coreNext_pph_eq (tick : Bool) (draw : Draw) (s : State) :
    (coreNext tick draw s).pph =
      if tick = true ∧ tickSelOf (readCtrl s) = 0b101#3 then nextPph s.pph else s.pph :=
  (ite_and ..).symm

/-! ### The button registers over a clk_ev edge (R101 to R104) -/

/-- The capture chain of a present button moves at every edge, and its latch keeps an edge until it is taken. -/
theorem next_of_present {s : State} {b : Button} (hpresent : present s.cfg b = true) :
    nextBsync s b = ⟨perButton s.btnN b, (perButton s.bsync b).stage0⟩ ∧
      nextBprev s b = (perButton s.bsync b).stage1 ∧
      (nextPend s b = true ↔
        (perButton s.pend b = true ∧ arbiter s ≠ some b) ∨
        (perButton s.bprev b = true ∧ (perButton s.bsync b).stage1 = false)) := by
  simp [nextBsync, nextBprev, nextPend, fall, shiftIn, hpresent]

/-- The button registers after an edge, button by button. -/
theorem perButton_evStep (draw : Draw) (s : State) (b : Button) :
    perButton (evStep draw s).bsync b = nextBsync s b ∧ perButton (evStep draw s).bprev b = nextBprev s b ∧
      perButton (evStep draw s).pend b = nextPend s b := by
  simp [evStep_eq]

/-! ### What a clk_ev edge accepts and drops (R106, R107, R118) -/

theorem evStep_rchg (draw : Draw) (s : State) : (evStep draw s).rchg = false := by
  rw [evStep_eq]
  cases accepted s with
  | none => rfl
  | some b => rfl

theorem accepted_of_room {s : State} {b : Button} (htaken : arbiter s = some b)
    (hroom : countW s < s.cfg.fifoDepth) : accepted s = some b := by
  simp [accepted, htaken, hroom]

/-- Nothing is accepted exactly if nothing is pending or the producer view is full. -/
theorem accepted_eq_none_iff (s : State) :
    accepted s = none ↔ arbiter s = none ∨ s.cfg.fifoDepth ≤ countW s := by
  cases htaken : arbiter s with
  | none => simp [accepted, htaken]
  | some b => simp [accepted, htaken]

/-- A full drop is an event taken by the arbiter at a full producer view (R107). -/
theorem fullDrop_eq (s : State) : fullDrop s = decide (arbiter s ≠ none ∧ s.cfg.fifoDepth ≤ countW s) := by
  rw [fullDrop, Bool.eq_iff_iff, Bool.and_eq_true, Option.isSome_iff_ne_none, Option.isNone_iff_eq_none,
    accepted_eq_none_iff, decide_eq_true_iff]
  exact and_congr_right fun htaken => or_iff_right htaken

/-- The drops of an edge: one for a full drop, and one for each button that merges (R118). -/
theorem dropsNow_eq (s : State) :
    dropsNow s = (if arbiter s ≠ none ∧ s.cfg.fifoDepth ≤ countW s then 1 else 0) +
      ([Button.mode, Button.strength, Button.power].countP fun b => merges s b) := by
  have hmerges : ([Button.mode, Button.strength, Button.power].countP fun b => merges s b) =
      (merges s .mode).toNat + (merges s .strength).toNat + (merges s .power).toNat := by
    simp only [List.countP_cons, List.countP_nil, Bool.toNat, Bool.cond_eq_ite]
    omega
  rw [hmerges, dropsNow, fullDrop_eq, Bool.toNat, Bool.cond_decide]
  omega

/-! ### The writers of the registers (R20, R211) -/

/-- The registers that clk_core edges write stay: CTRL, the phases, DREG, the strobes, RPTR and WSYNC. -/
def CoreRegistersKept (s t : State) : Prop :=
  t.ctrl = s.ctrl ∧ t.wph = s.wph ∧ t.pph = s.pph ∧ t.dreg = s.dreg ∧ t.s1v = s.s1v ∧ t.s2v = s.s2v ∧
  t.rptr = s.rptr ∧ t.wsync = s.wsync

/-- The registers that clk_ev edges write stay: WPTR, RSYNC, the button registers and MEM. -/
def EvRegistersKept (s t : State) : Prop :=
  t.wptr = s.wptr ∧ t.rsync = s.rsync ∧ t.bsync = s.bsync ∧ t.bprev = s.bprev ∧ t.pend = s.pend ∧ SameMem s t

/-- Driving a pin moves the pins alone (R43). -/
theorem drivePin_frame (b : Button) (level : Bool) (s : State) :
    drivePin b level s = { s with btnN := (drivePin b level s).btnN } := by
  unfold drivePin
  split
  · rfl
  · rfl

theorem coreRegistersKept_drivePin (b : Button) (level : Bool) (s : State) :
    CoreRegistersKept s (drivePin b level s) := by
  rw [drivePin_frame]
  exact ⟨rfl, rfl, rfl, rfl, rfl, rfl, rfl, rfl⟩

theorem evRegistersKept_drivePin (b : Button) (level : Bool) (s : State) : EvRegistersKept s (drivePin b level s) := by
  rw [drivePin_frame]
  exact ⟨rfl, rfl, rfl, rfl, rfl, fun _ => rfl⟩

theorem coreRegistersKept_evEdge (draw : Draw) (s : State) : CoreRegistersKept s (evEdge draw s) := by
  unfold evEdge
  split
  · rw [evResetEdge_eq]
    exact ⟨rfl, rfl, rfl, rfl, rfl, rfl, rfl, rfl⟩
  · rw [evStep_frame]
    exact ⟨rfl, rfl, rfl, rfl, rfl, rfl, rfl, rfl⟩

/-- An edge of clk_core in reset leaves the registers of its own domain too (R230). -/
theorem coreRegistersKept_coreResetEdge (s : State) : CoreRegistersKept s (coreResetEdge s) := by
  rw [coreResetEdge_eq]
  exact ⟨rfl, rfl, rfl, rfl, rfl, rfl, rfl, rfl⟩

theorem evRegistersKept_coreEdge (tick : Bool) (draw : Draw) (s : State) :
    EvRegistersKept s (afterAct (.coreEdge tick draw) s) := by
  rw [afterAct_coreEdge]
  split
  · rw [coreResetEdge_eq]
    exact ⟨rfl, rfl, rfl, rfl, rfl, fun _ => rfl⟩
  · exact ⟨rfl, rfl, rfl, rfl, rfl, fun _ => rfl⟩

/-- Only a clk_core edge writes the registers of its domain, resets apart. -/
theorem afterAct_keeps_core {a : EnvAct} (hquiet : drivesReset a = false) (hother : isCoreEdge a = false)
    (s : State) : CoreRegistersKept s (afterAct a s) := by
  cases a with
  | pin b level => exact coreRegistersKept_drivePin b level s
  | rstN level => cases hquiet
  | evEdge draw => exact coreRegistersKept_evEdge draw s
  | coreEdge tick draw => cases hother

/-- Only a clk_ev edge writes the registers of its domain, resets apart. -/
theorem afterAct_keeps_ev {a : EnvAct} (hquiet : drivesReset a = false) (hother : isEvEdge a = false)
    (s : State) : EvRegistersKept s (afterAct a s) := by
  cases a with
  | pin b level => exact evRegistersKept_drivePin b level s
  | rstN level => cases hquiet
  | evEdge draw => cases hother
  | coreEdge tick draw => exact evRegistersKept_coreEdge tick draw s

/-- A clk_core edge that delivers no token leaves CTRL: it is in reset, or the consumer view is empty (R113, R230). -/
theorem coreEdge_keeps_ctrl {tick : Bool} {draw : Draw} {s : State}
    (hnone : deliveredAt (.coreEdge tick draw) s = []) : (afterAct (.coreEdge tick draw) s).ctrl = s.ctrl := by
  rw [afterAct_coreEdge]
  rw [deliveredAt] at hnone
  split
  · obtain ⟨hctrl, -⟩ := coreRegistersKept_coreResetEdge s
    exact hctrl
  · next hactive =>
    rw [if_neg hactive, Option.toList_eq_nil_iff] at hnone
    obtain ⟨hctrl, -, -⟩ := coreNext_of_empty hnone tick draw
    exact hctrl

/-- Only a popped token writes CTRL, resets apart (R26). -/
theorem afterAct_keeps_ctrl {a : EnvAct} {s : State} (hquiet : drivesReset a = false) (hnone : deliveredAt a s = []) :
    (afterAct a s).ctrl = s.ctrl := by
  cases hkind : isCoreEdge a with
  | false =>
    obtain ⟨hctrl, -⟩ := afterAct_keeps_core hquiet hkind s
    exact hctrl
  | true =>
    cases a with
    | coreEdge tick draw => exact coreEdge_keeps_ctrl hnone
    | pin | rstN | evEdge => cases hkind

end Sys2Proof.Machine

namespace Sys2Proof.Proofs

open Sys2Proof.Machine

/-- Settles O15: `coreNext` is the edge; what the pop and the tick make of its registers is read before it, and the
commit stage and the synchroniser are those of R181 and R110 as they stand. -/
theorem coreEdgeReadsEverythingBeforeTheEdge : Obligations.CoreEdgeReadsEverythingBeforeTheEdge := by
  intro s tick draw hactive
  obtain ⟨hctrl, hrptr, hrchg⟩ := coreNext_pop tick draw s
  rw [storedCtrl_readCtrl] at hctrl
  exact ⟨coreNext tick draw s, coreEdge_of_active hactive tick draw, hctrl, hrptr, hrchg, coreNext_pph_eq tick draw s,
    coreNext_wph_eq tick draw s, edgeDuty_getD tick s, edgeDuty_isSome tick s, rfl, rfl, rfl, rfl, fun _ => rfl⟩

/-- Settles O16: `evStep` is the edge; its button registers follow R101 to R104, its FIFO write is the accepted event,
and the ghost counter counts the full drop and the merges. -/
theorem evEdgeReadsEverythingBeforeTheEdge : Obligations.EvEdgeReadsEverythingBeforeTheEdge := by
  intro s draw hactive t
  have ht : t = evStep draw s := evEdge_of_active hactive draw
  refine ⟨fun b hpresent => ?present, fun b habsent => ?absent, ?rsync, ?rchg, fun b htaken hroom => ?written,
    fun hnothing => ?kept, ?drops, ?frame⟩
  case present =>
    obtain ⟨hbsync, hbprev, hpend⟩ := perButton_evStep draw s b
    rw [ht, hbsync, hbprev, hpend]
    exact next_of_present hpresent
  case absent =>
    obtain ⟨hbsync, hbprev, hpend⟩ := perButton_evStep draw s b
    obtain ⟨hpendKept, hbprevKept, hbsyncKept⟩ := next_of_absent habsent
    rw [ht]
    exact ⟨hbsync.trans hbsyncKept, hbprev.trans hbprevKept, hpend.trans hpendKept⟩
  case rsync =>
    rw [ht]
    exact evStep_rsync draw s
  case rchg =>
    rw [ht]
    exact evStep_rchg draw s
  case written =>
    have haccepted : accepted s = some b := accepted_of_room htaken hroom
    obtain ⟨hwptr, hread⟩ := evEdge_writes hactive haccepted draw
    exact ⟨hwptr, evEdge_wchg_of_accepted hactive haccepted draw, (hread _).trans (if_pos rfl),
      fun p hother => (hread p).trans (if_neg hother)⟩
  case kept =>
    rw [ht, evStep_of_accepted_none ((accepted_eq_none_iff s).2 hnothing)]
    exact ⟨rfl, rfl, fun _ => rfl⟩
  case drops =>
    rw [ht, evStep_eq, captureButtons_drops, dropsNow_eq, Nat.add_assoc]
  case frame =>
    rw [ht]
    exact evStep_frame draw s

/-- Settles O46: the check of the build is the first thing a step does, and past it every command and every act has a
next state. -/
theorem onlyAnIllFormedBuildStops : Obligations.OnlyAnIllFormedBuildStops := by
  intro s
  rw [← Config.wf_iff_constraints]
  refine ⟨fun hwf => ?goesOn, step_of_not_wf⟩
  case goesOn =>
    rw [step_of_wf hwf]
    exact advance_goes_on s

/-- Settles O47, by the kind of the act. -/
theorem eachRegisterHasItsOwnWriter : Obligations.EachRegisterHasItsOwnWriter :=
  fun _ s hquiet => ⟨fun hother => afterAct_keeps_core hquiet hother s,
    fun hother => afterAct_keeps_ev hquiet hother s, mt (afterAct_keeps_ctrl hquiet)⟩

end Sys2Proof.Proofs
end

section
/-!
PROOFS. Reset (spec/70_reset_and_hazards.md): its assertion (R230, R231), its release domain by domain (R232), the
registers of a domain in reset, and a button held down through it (R235).
-/

namespace Sys2Proof.Machine

/-! ### When a domain is in reset (R232) -/

theorem evInReset_of_low {s : State} (hlow : s.rstN = false) : evInReset s = true := by
  rw [evInReset, hlow]
  rfl

theorem coreInReset_of_low {s : State} (hlow : s.rstN = false) : coreInReset s = true := by
  rw [coreInReset, hlow]
  rfl

/-- A domain in reset after rst_n has risen was in reset before. -/
theorem inReset_of_releaseReset (s : State) :
    (evInReset (releaseReset s) = true → evInReset s = true) ∧
      (coreInReset (releaseReset s) = true → coreInReset s = true) := by
  simp +contextual [evInReset, coreInReset, releaseReset]

/-- An edge in reset changes nothing while rst_n is low (R230). -/
theorem evResetEdge_of_low {s : State} (hlow : s.rstN = false) : evResetEdge s = s :=
  if_neg (by simp [hlow])

theorem coreResetEdge_of_low {s : State} (hlow : s.rstN = false) : coreResetEdge s = s :=
  if_neg (by simp [hlow])

/-! ### Reset values, update by update (R230) -/

/-- The registers of the clk_ev domain hold their reset values as long as nothing writes them. -/
theorem evAtReset_of_kept {s t : State} (hkept : EvRegistersKept s t) (h : evAtReset s) : evAtReset t := by
  obtain ⟨hwptr, hrsync, hbsync, hbprev, hpend, -⟩ := hkept
  rw [evAtReset, hwptr, hrsync, hbsync, hbprev, hpend]
  exact h

/-- The registers of the clk_core domain hold their reset values as long as nothing writes them. -/
theorem coreAtReset_of_kept {s t : State} (hkept : CoreRegistersKept s t) (h : coreAtReset s) : coreAtReset t := by
  obtain ⟨hctrl, hwph, hpph, hdreg, hs1v, hs2v, hrptr, hwsync⟩ := hkept
  rw [coreAtReset, hctrl, hwph, hpph, hdreg, hs1v, hs2v, hrptr, hwsync]
  exact h

/-- Asserting rst_n gives every register its reset value, whatever it held (R230). -/
theorem assertReset_resetHolds (s : State) : ResetHolds (assertReset s) :=
  ⟨fun _ => evAtReset_resetOf s.cfg, fun _ => coreAtReset_resetOf s.cfg, fun _ => ⟨rfl, rfl, rfl, rfl⟩⟩

/-- What waited in the FIFO is lost: both pointers are back at 0 (R231). -/
theorem unread_assertReset (s : State) : unread (assertReset s) = [] := by
  have hempty : occupancy (assertReset s) = 0 := congrArg BitVec.toNat (BitVec.sub_self 0#4)
  rw [← List.length_eq_zero_iff, length_unread, hempty]

/-- The script's RESET leaves no domain in reset (log 6). -/
theorem scriptReset_resetHolds (s : State) : ResetHolds (scriptReset s) := resetHolds_resetOf s.cfg

theorem releaseReset_resetHolds {s : State} (h : ResetHolds s) : ResetHolds (releaseReset s) := by
  obtain ⟨hev, hcore, -⟩ := h
  obtain ⟨hevBefore, hcoreBefore⟩ := inReset_of_releaseReset s
  exact ⟨fun hreset => hev (hevBefore hreset), fun hreset => hcore (hcoreBefore hreset), nofun⟩

/-- A clk_ev edge in reset writes no register, so the domain holds its reset values even if this edge lets it go. -/
theorem evResetEdge_resetHolds {s : State} (h : ResetHolds s) (hreset : evInReset s = true) :
    ResetHolds (evResetEdge s) := by
  cases hpin : s.rstN with
  | false => rwa [evResetEdge_of_low hpin]
  | true =>
    obtain ⟨hev, hcore, -⟩ := h
    rw [evResetEdge_eq]
    exact ⟨fun _ => hev hreset, hcore, fun low => nomatch hpin.symm.trans low⟩

theorem coreResetEdge_resetHolds {s : State} (h : ResetHolds s) (hreset : coreInReset s = true) :
    ResetHolds (coreResetEdge s) := by
  cases hpin : s.rstN with
  | false => rwa [coreResetEdge_of_low hpin]
  | true =>
    obtain ⟨hev, hcore, -⟩ := h
    rw [coreResetEdge_eq]
    exact ⟨hev, fun _ => hcore hreset, fun low => nomatch hpin.symm.trans low⟩

/-- An edge at which the clk_ev domain works writes no register of the other, and rst_n is high. -/
theorem evStep_resetHolds {s : State} (h : ResetHolds s) (hactive : ¬ evInReset s = true) (draw : Draw) :
    ResetHolds (evStep draw s) := by
  obtain ⟨-, hcore, -⟩ := h
  rw [evStep_frame]
  exact ⟨fun hreset => absurd hreset hactive, hcore, fun low => absurd (evInReset_of_low low) hactive⟩

/-- An edge at which the clk_core domain works writes no register of the other, and rst_n is high. -/
theorem coreNext_resetHolds {s : State} (h : ResetHolds s) (hactive : ¬ coreInReset s = true) (tick : Bool)
    (draw : Draw) : ResetHolds (coreNext tick draw s) := by
  obtain ⟨hev, -, -⟩ := h
  exact ⟨hev, fun hreset => absurd hreset hactive, fun low => absurd (coreInReset_of_low low) hactive⟩

/-- Every act of the environment keeps a domain in reset at its reset values. -/
theorem afterAct_resetHolds {s : State} (h : ResetHolds s) (a : EnvAct) : ResetHolds (afterAct a s) := by
  cases a with
  | pin b level =>
    rw [afterAct_pin, drivePin_frame]
    exact h
  | rstN level =>
    cases level with
    | true => exact releaseReset_resetHolds h
    | false => exact assertReset_resetHolds s
  | evEdge draw =>
    rw [afterAct_evEdge, evEdge]
    split
    · next hreset => exact evResetEdge_resetHolds h hreset
    · next hactive => exact evStep_resetHolds h hactive draw
  | coreEdge tick draw =>
    rw [afterAct_coreEdge]
    split
    · next hreset => exact coreResetEdge_resetHolds h hreset
    · next hactive => exact coreNext_resetHolds h hactive tick draw

/-! ### Upsets and reset (R90, log 12) -/

/-- FORCE reaches a slot of MEM, which has no reset, or a register of a domain out of reset. -/
theorem forceReaches_cases {r : ForceReg} {s : State} (h : forceReaches r s = true) :
    (∃ slot, r = .mem slot) ∨ (inCoreDomain r = true ∧ coreInReset s = false) ∨
      (inCoreDomain r = false ∧ evInReset s = false) := by
  cases r with
  | mem slot => exact .inl ⟨slot, rfl⟩
  | ctrl | wph | pph | dreg | s1v | s2v | rptr | wsync =>
    have hactive : (!coreInReset s) = true := h
    exact .inr (.inl ⟨rfl, by simpa using hactive⟩)
  | wptr | rsync =>
    have hactive : (!evInReset s) = true := h
    exact .inr (.inr ⟨rfl, by simpa using hactive⟩)
  | bsync | bprev | pend =>
    obtain ⟨-, hactive⟩ := Bool.and_eq_true_iff.1 h
    exact .inr (.inr ⟨rfl, by simpa using hactive⟩)

/-- FORCE sets registers of R20 only: not rst_n, the reset synchronisers or the change flags. -/
theorem setRegister_keeps_reset (r : ForceReg) (v : Nat) (s : State) :
    (setRegister r v s).rstN = s.rstN ∧ (setRegister r v s).rstEv = s.rstEv ∧
      (setRegister r v s).rstCore = s.rstCore ∧ (setRegister r v s).wchg = s.wchg ∧
      (setRegister r v s).rchg = s.rchg := by
  cases r <;> exact ⟨rfl, rfl, rfl, rfl, rfl⟩

theorem setRegister_keeps_core {r : ForceReg} (hother : inCoreDomain r = false) (v : Nat) (s : State) :
    CoreRegistersKept s (setRegister r v s) := by
  cases r with
  | wptr | rsync | bsync | bprev | pend | mem => exact ⟨rfl, rfl, rfl, rfl, rfl, rfl, rfl, rfl⟩
  | ctrl | wph | pph | dreg | s1v | s2v | rptr | wsync => cases hother

theorem setRegister_keeps_ev {r : ForceReg} (hother : inCoreDomain r = true) (v : Nat) (s : State) :
    EvRegistersKept s (setRegister r v s) := by
  cases r with
  | ctrl | wph | pph | dreg | s1v | s2v | rptr | wsync => exact ⟨rfl, rfl, rfl, rfl, rfl, fun _ => rfl⟩
  | wptr | rsync | bsync | bprev | pend | mem => cases hother

/-- An upset keeps a domain in reset at its reset values: a register it reaches is of a domain out of reset. -/
theorem force_resetHolds {s : State} (h : ResetHolds s) (r : ForceReg) (v : Nat) : ResetHolds (force r v s) := by
  unfold force
  split
  · next hreaches =>
    obtain ⟨hev, hcore, hlow⟩ := h
    obtain ⟨hrstN, hrstEv, hrstCore, hwchg, hrchg⟩ := setRegister_keeps_reset r v s
    rw [ResetHolds, evInReset, coreInReset, hrstN, hrstEv, hrstCore, hwchg, hrchg, ← evInReset, ← coreInReset]
    rcases forceReaches_cases hreaches with ⟨slot, rfl⟩ | ⟨hdomain, hactive⟩ | ⟨hdomain, hactive⟩
    · exact ⟨hev, hcore, hlow⟩
    · exact ⟨fun hreset => evAtReset_of_kept (setRegister_keeps_ev hdomain v s) (hev hreset),
        fun hreset => absurd (hactive.symm.trans hreset) Bool.false_ne_true, hlow⟩
    · exact ⟨fun hreset => absurd (hactive.symm.trans hreset) Bool.false_ne_true,
        fun hreset => coreAtReset_of_kept (setRegister_keeps_core hdomain v s) (hcore hreset), hlow⟩
  · exact h

theorem step_keeps_resetHolds {s t : State} (h : ResetHolds s) (hstep : step s = .next t) : ResetHolds t := by
  obtain ⟨-, ⟨c, rest, -, hrun⟩ | ⟨-, rfl⟩⟩ := step_eq_next hstep
  · rw [runStim_eq] at hrun
    cases hrun
    cases c with
    | env a => exact afterAct_resetHolds (s := { s with stim := rest }) h a
    | reset => exact scriptReset_resetHolds { s with stim := rest }
    | force r v => exact force_resetHolds (s := { s with stim := rest }) h r v
  · exact afterAct_resetHolds (s := { s with now := s.now + 1 }) h _

/-! ### While rst_n is low (R230, R231) -/

theorem afterAct_of_low {a : EnvAct} {s : State} (hlow : s.rstN = false) (hquiet : drivesReset a = false) :
    ∃ pins, afterAct a s = { s with btnN := pins } := by
  cases a with
  | pin b level => exact ⟨_, drivePin_frame b level s⟩
  | rstN level => cases hquiet
  | evEdge draw =>
    refine ⟨s.btnN, ?_⟩
    rw [afterAct_evEdge, evEdge, if_pos (evInReset_of_low hlow), evResetEdge_of_low hlow]
  | coreEdge tick draw =>
    refine ⟨s.btnN, ?_⟩
    rw [afterAct_coreEdge, if_pos (coreInReset_of_low hlow), coreResetEdge_of_low hlow]

theorem afterActs_of_low {acts : List EnvAct} {s : State} (hlow : s.rstN = false)
    (hquiet : (acts.all fun a => !drivesReset a) = true) : ∃ pins, afterActs acts s = { s with btnN := pins } := by
  induction acts generalizing s with
  | nil => exact ⟨s.btnN, rfl⟩
  | cons a rest ih =>
    rw [List.all_cons, Bool.and_eq_true, Bool.not_eq_true'] at hquiet
    obtain ⟨hact, hrest⟩ := hquiet
    obtain ⟨pins, hnext⟩ := afterAct_of_low hlow hact
    rw [afterActs, hnext]
    exact ih (s := { s with btnN := pins }) hlow hrest

/-! ### The release of the two domains (R232, log 5) -/

/-- A reset synchroniser n edges of its own clock after rst_n has risen. -/
def resetSyncAfter (n : Nat) : Sync Bool := ⟨decide (1 ≤ n), decide (2 ≤ n)⟩

theorem resetSyncAfter_succ (n : Nat) : resetSyncAfter (n + 1) = shiftIn (resetSyncAfter n) true := by
  simp [resetSyncAfter, shiftIn]

/-- Once a domain is out of reset its synchroniser has come to rest. -/
theorem resetSyncAfter_of_released {n : Nat} (hreleased : (resetSyncAfter n).stage1 = true) :
    resetSyncAfter (n + 1) = resetSyncAfter n := by
  have htwo : 2 ≤ n := of_decide_eq_true hreleased
  simp [resetSyncAfter, htwo, show 1 ≤ n by omega, show 1 ≤ n + 1 by omega, show 2 ≤ n + 1 by omega]

/-- rst_n has risen, and n edges of clk_ev and m of clk_core have come since. -/
def ReleasedFor (n m : Nat) (s : State) : Prop :=
  s.rstN = true ∧ s.rstEv = resetSyncAfter n ∧ s.rstCore = resetSyncAfter m

/-- A domain is in reset exactly before the second edge of its own clock. -/
theorem ReleasedFor.inReset_eq {n m : Nat} {s : State} (h : ReleasedFor n m s) :
    evInReset s = decide (n < 2) ∧ coreInReset s = decide (m < 2) := by
  obtain ⟨hhigh, hev, hcore⟩ := h
  simp [evInReset, coreInReset, hhigh, hev, hcore, resetSyncAfter, ← decide_not]

theorem ReleasedFor.after_evEdge {n m : Nat} {s : State} (h : ReleasedFor n m s) (draw : Draw) :
    ReleasedFor (n + 1) m (evEdge draw s) := by
  obtain ⟨hhigh, hev, hcore⟩ := h
  unfold evEdge
  split
  · rw [evResetEdge_eq]
    refine ⟨hhigh, ?_, hcore⟩
    rw [resetSyncAfter_succ, ← hev, hhigh]
    rfl
  · next hactive =>
    have hreleased : (resetSyncAfter n).stage1 = true := by simpa [evInReset, hhigh, hev] using hactive
    rw [evStep_frame]
    exact ⟨hhigh, hev.trans (resetSyncAfter_of_released hreleased).symm, hcore⟩

theorem ReleasedFor.after_coreEdge {n m : Nat} {s : State} (h : ReleasedFor n m s) (tick : Bool) (draw : Draw) :
    ReleasedFor n (m + 1) (afterAct (.coreEdge tick draw) s) := by
  obtain ⟨hhigh, hev, hcore⟩ := h
  rw [afterAct_coreEdge]
  split
  · rw [coreResetEdge_eq]
    refine ⟨hhigh, hev, ?_⟩
    rw [resetSyncAfter_succ, ← hcore, hhigh]
    rfl
  · next hactive =>
    have hreleased : (resetSyncAfter m).stage1 = true := by simpa [coreInReset, hhigh, hcore] using hactive
    exact ⟨hhigh, hev, hcore.trans (resetSyncAfter_of_released hreleased).symm⟩

/-- Over a run without a reset each domain counts the edges of its own clock. -/
theorem ReleasedFor.after_acts {acts : List EnvAct} {n m : Nat} {s : State} (h : ReleasedFor n m s)
    (hquiet : (acts.all fun a => !drivesReset a) = true) :
    ReleasedFor (n + acts.countP isEvEdge) (m + acts.countP isCoreEdge) (afterActs acts s) := by
  induction acts generalizing n m s with
  | nil => exact h
  | cons a rest ih =>
    rw [List.all_cons, Bool.and_eq_true, Bool.not_eq_true'] at hquiet
    obtain ⟨hact, hrest⟩ := hquiet
    rw [afterActs, List.countP_cons, List.countP_cons, Nat.add_comm (rest.countP isEvEdge),
      Nat.add_comm (rest.countP isCoreEdge), ← Nat.add_assoc, ← Nat.add_assoc]
    refine ih ?_ hrest
    cases a with
    | pin b level =>
      rw [afterAct_pin, drivePin_frame]
      exact h
    | rstN level => cases hact
    | evEdge draw => exact h.after_evEdge draw
    | coreEdge tick draw => exact h.after_coreEdge tick draw

/-! ### A button held through reset (R235) -/

theorem setButton_setButton {α : Type} (p : PerButton α) (b : Button) (v w : α) :
    setButton (setButton p b v) b w = setButton p b w := by
  cases b <;> rfl

theorem setButton_perButton {α : Type} (p : PerButton α) (b : Button) : setButton p b (perButton p b) = p := by
  cases b <;> rfl

/-- A button held down is one that has just been pressed. -/
theorem drivePin_release_press {s : State} {b : Button} (hpresent : present s.cfg b = true)
    (hheld : perButton s.btnN b = false) : drivePin b false (drivePin b true s) = s := by
  have hpins : setButton (setButton s.btnN b true) b false = s.btnN := by
    rw [setButton_setButton, ← hheld, setButton_perButton]
  have hrelease : drivePin b true s = { s with btnN := setButton s.btnN b true } := if_pos hpresent
  rw [hrelease, drivePin, if_pos hpresent, hpins]

/-- With the clk_ev registers at their reset values and only b held, releasing b leaves the capture chain idle. -/
theorem captureIdle_of_released {s : State} {b : Button} (hreset : evAtReset s) (hpresent : present s.cfg b = true)
    (hothers : ∀ b', b' ≠ b → perButton s.btnN b' = true) : captureIdle (drivePin b true s) := by
  obtain ⟨-, -, hbsync, hbprev, hpend⟩ := hreset
  rw [drivePin, if_pos hpresent]
  intro b' _
  refine ⟨?pin, ?_⟩
  case pin =>
    rw [perButton_setButton]
    split
    · rfl
    · next hother => exact hothers b' hother
  rw [hbsync, hbprev, hpend]
  cases b' with
  | mode | strength | power => exact ⟨rfl, rfl, rfl⟩

/-- The chain of a button that stays down after its event. -/
def CaptureChain.held : CaptureChain := ⟨false, ⟨false, false⟩, false, false⟩

theorem latched_next_eq_held : CaptureChain.latched.next = CaptureChain.held := rfl

/-- A button that stays down makes no further event: its chain is at rest. -/
theorem held_edges (n : Nat) : CaptureChain.next^[n] CaptureChain.held = CaptureChain.held :=
  Function.iterate_fixed rfl n

/-- The fourth edge of a press into an empty FIFO writes the token, and the button stays down with nothing pending. -/
theorem held_fourth_edge {s : State} {b : Button} (hwf : s.cfg.wf = true) (hactive : evActive s)
    (hreset : evAtReset s) (hrptr : s.rptr = 0) (hpresent : present s.cfg b = true)
    (hheld : perButton s.btnN b = false) (hothers : ∀ b', b' ≠ b → perButton s.btnN b' = true) :
    OnlyBusy b CaptureChain.held ((evEdge .current)^[4] s) ∧ evActive ((evEdge .current)^[4] s) ∧
      ((evEdge .current)^[4] s).wptr = 1 ∧ memRead ((evEdge .current)^[4] s) 0 = tokenOf b := by
  obtain ⟨hkeepActive, -, hreleasedRptr⟩ := drivePin_keeps (s := s) b true
  obtain ⟨hreleasedWptr, -⟩ := fifoKept_drivePin b true s
  obtain ⟨hdepth, -⟩ := (Config.wf_iff s.cfg).1 hwf
  have hidle : captureIdle (drivePin b true s) := captureIdle_of_released hreset hpresent hothers
  obtain ⟨hzero, -⟩ := hreset
  have hpress : (evEdge .current)^[3] s = (evEdge .current)^[3] (drivePin b false (drivePin b true s)) := by
    rw [drivePin_release_press hpresent hheld]
  obtain ⟨hlatched, hthirdActive, ⟨hwptr, -⟩, -, haccepted⟩ :=
    press_third_edge (hkeepActive hactive) ((drivePin_cfg b true s).symm ▸ hpresent) hidle hpress
  rw [hreleasedWptr, hzero] at hwptr
  have hempty : occupancy (drivePin b true s) = 0 := by
    rw [occupancy, hreleasedWptr, hreleasedRptr, hzero, hrptr]
    rfl
  rw [hempty, drivePin_cfg, if_pos (by omega)] at haccepted
  obtain ⟨hfourthActive, -, -⟩ := evEdge_keeps hthirdActive .current
  obtain ⟨hfourthWptr, hread⟩ := evEdge_writes hthirdActive haccepted .current
  rw [hwptr] at hfourthWptr hread
  rw [Function.iterate_succ_apply', ← latched_next_eq_held]
  exact ⟨hlatched.after_evEdge hthirdActive .current, hfourthActive, hfourthWptr, (hread 0).trans (if_pos rfl)⟩

end Sys2Proof.Machine

namespace Sys2Proof.Proofs

open Sys2Proof.Machine

/-- Settles O23: the button is pressed from an idle chain, the fourth edge writes its token, and no later edge finds
anything pending. -/
theorem heldButtonMakesOneEventAfterReset : Obligations.HeldButtonMakesOneEventAfterReset := by
  intro s b n hwf hactive hreset hrptr _ hpresent hheld hothers hfour
  obtain ⟨hdown, hfourthActive, hwptr, hmem⟩ :=
    held_fourth_edge hwf hactive hreset hrptr hpresent hheld hothers
  have hquiet : ∀ k < n - 4, (CaptureChain.next^[k] CaptureChain.held).pend = false := by
    intro k _
    rw [held_edges]
    rfl
  obtain ⟨-, -, ⟨hwptrKept, hmemKept⟩, -⟩ :=
    hdown.after_quiet_edges (draw := .current) (n - 4) hfourthActive hquiet
  rw [← Function.iterate_add_apply, Nat.sub_add_cancel hfour] at hwptrKept hmemKept
  exact ⟨hwptrKept.trans hwptr, (hmemKept 0).trans hmem⟩

/-- Settles O44, by the cases of what a step can run, upsets included. -/
theorem everyStepKeepsResetValuesInReset : Obligations.EveryStepKeepsResetValuesInReset :=
  fun _ _ => step_keeps_resetHolds

/-- Settles O52, by induction on the acts: each leaves the state as it is but for the pins. -/
theorem nothingButThePinsMovesDuringReset : Obligations.NothingButThePinsMovesDuringReset := by
  intro acts s hlow hquiet
  obtain ⟨pins, hend⟩ := afterActs_of_low hlow hquiet
  rw [hend]

/-- Settles O53: the reset synchronisers are clear when rst_n rises, and each counts the edges of its own clock. -/
theorem eachDomainLeavesResetAfterTwoOwnEdges : Obligations.EachDomainLeavesResetAfterTwoOwnEdges := by
  intro acts s hlow hholds hquiet
  obtain ⟨-, -, hclear⟩ := hholds
  obtain ⟨hrstEv, hrstCore, -, -⟩ := hclear hlow
  have hrelease : ReleasedFor 0 0 (releaseReset s) := ⟨rfl, hrstEv, hrstCore⟩
  have hend := (hrelease.after_acts hquiet).inReset_eq
  rwa [Nat.zero_add, Nat.zero_add, List.countP_eq_length_filter, List.countP_eq_length_filter] at hend

/-- Settles O51: the step runs the assertion, which gives the registers of the reset state and leaves the pins and the
stimulus. -/
theorem assertingResetResetsEveryRegisterAtOnce : Obligations.AssertingResetResetsEveryRegisterAtOnce := by
  intro s rest hwf hstim
  have hstep : step s = .next (assertReset { s with stim := rest }) := by
    rw [step_of_wf hwf, advance_of_stim_cons hstim]
    rfl
  exact ⟨_, hstep, evAtReset_resetOf s.cfg, coreAtReset_resetOf s.cfg, rfl, rfl, readCtrl_resetOf s.cfg,
    fun _ => ⟨rfl, rfl, rfl⟩, unread_assertReset _, rfl, rfl, rfl⟩

end Sys2Proof.Proofs
end
